-- ==== Sys2Proof/Word.lean ====
section
/-! DEFINITION. The word types of the part's wires: bytes of frames and the 16-bit words of operands and data
(spec/00_scope.md, 4 Conventions, BYTE ORDER; R161). -/

namespace Sys2Proof

/-- One byte of an order, reply or field frame. -/
abbrev Byte := BitVec 8

/-- One operand or data word: 16 bits, signed unless a rule gives a range only unsigned values hold (R161). -/
abbrev Word := BitVec 16

/-- The word that carries a number, high bits dropped. -/
def Word.ofInt (i : Int) : Word := BitVec.ofInt 16 i

end Sys2Proof
end

