-- ==== Sys2Proof/Syntax.lean ====
section
/-! DEFINITION. The commands of the block: one constructor of `Instr` per row of spec/opcode_table.json, and the
types of their operands. -/

namespace Sys2Proof

/-- Stations are numbered 1 to 3 after their ports (spec/00_scope.md, 4, STATIONS). -/
inductive Station where
  | one | two | three
deriving DecidableEq, Repr

/-- The three movers (R23). -/
inductive Mover where
  | hatch | platform | windlass
deriving DecidableEq, Repr

/-- The local control inputs: both platform positions and both foot switches are separate inputs (R57). -/
inductive Control where
  | hatchButton | platformUp | platformDown | windlassHeave | windlassPayOut
deriving DecidableEq, Repr

/-- The three emergency-stop loops (R91). -/
inductive Loop where
  | bow | stern | garage
deriving DecidableEq, Repr

/-- An order frame as it arrives at a port, less its order code (Table 9-1, R161). -/
structure OrderFrame where
  station : Station
  tag     : Byte
  target  : Word
  attrs   : Byte
  words   : List Word
deriving DecidableEq, Repr

/-- One item's result in a field reply (Table 7-6, R120). -/
inductive ItemResult where
  | applied | fault | notFitted
deriving DecidableEq, Repr, Inhabited

/-- The drive status of a drive report (R25). -/
inductive DriveStatus where
  | running | stopped | stalled | overload | limitMismatch
deriving DecidableEq, Repr

/-- The drive report of a mover's module (R25): the status, the command it concerns, and the position when the
module has one. The input snapshot stands in the reply itself. -/
structure DriveReport where
  status   : DriveStatus
  command  : Word
  position : Option Word
deriving DecidableEq, Repr

/-- The kinds of a field frame (Table 7-5). -/
inductive FrameKind where
  | levels | drive | home | terminalWrite | poll | halt
deriving DecidableEq, Repr

/-- A reply frame of a field module (Table 7-6), its check word found right. -/
structure FieldReply where
  module    : Byte
  seq       : Word
  attempt   : Byte
  kind      : FrameKind
  results   : List ItemResult
  drive     : Option DriveReport
  /-- machine switches, made at weight 1: hatch closed 0, hatch open 1, latch 2, platform stowed 3,
  platform deck 4, anchor-home 5, brake 6 -/
  switches  : Word
  /-- terminals 0 to 15, the input value, or −1 for an output terminal -/
  terminals : Vector Word 16
deriving DecidableEq, Repr

/-- The wired inputs as first seen at a restart (R53, R57, R62, R91, R103). -/
structure Contacts where
  bowOpen     : Bool
  sternOpen   : Bool
  garageOpen  : Bool
  matMade     : Bool
  hatchHeld   : Bool
  upHeld      : Bool
  downHeld    : Bool
  heaveHeld   : Bool
  payOutHeld  : Bool
deriving DecidableEq, Repr

/-- The commands of the block, in the order of spec/opcode_table.json. -/
inductive Instr where
  -- Zone Control (01)
  | readPoint (o : OrderFrame)
  | setPoint (o : OrderFrame)
  | recallScene (o : OrderFrame)
  | storeScene (o : OrderFrame)
  | eraseScene (o : OrderFrame)
  -- Claim Arbiter (04)
  | claim (o : OrderFrame)
  | release (o : OrderFrame)
  | renew (o : OrderFrame)
  -- Motion Controller (02, 03)
  | move (o : OrderFrame)
  | home (o : OrderFrame)
  | halt (o : OrderFrame)
  | ready (o : OrderFrame)
  | resetMover (o : OrderFrame)
  | setChainOut (o : OrderFrame)
  -- Condition Monitor (05)
  | setMode (o : OrderFrame)
  | setSwimmer (o : OrderFrame)
  | clearSwimmer (o : OrderFrame)
  | clearEstop (o : OrderFrame)
  | readConditions (o : OrderFrame)
  -- Concurrence Unit (06)
  | openWatch (o : OrderFrame)
  | closeWatch (o : OrderFrame)
  | concur (o : OrderFrame)
  | decline (o : OrderFrame)
  | listHeld (o : OrderFrame)
  -- Field Link Controller and Channel Map (07, 08)
  | fence (o : OrderFrame)
  | assignSpare (o : OrderFrame)
  | releaseSpare (o : OrderFrame)
  | terminalWrite (o : OrderFrame)
  | readModule (o : OrderFrame)
  -- Station Ports (09, 10)
  | readFault (o : OrderFrame)
  | readEvents (o : OrderFrame)
  | ackEvents (o : OrderFrame)
  | setEnables (o : OrderFrame)
  -- Configuration Store (10)
  | loadConfig (o : OrderFrame)
  | lockConfig (o : OrderFrame)
  -- the port link (09)
  /-- an order whose code is not in Table 9-4 (R165) -/
  | unknownOrder (code : Byte) (o : OrderFrame)
  /-- a frame completed with a byte sum that is not zero; `frame` is byte 1 (the length) to the check byte (R160) -/
  | checkByteFailed (st : Station) (frame : List Byte)
  /-- one byte reaches the port's receiver (R159) -/
  | strayByte (st : Station) (b : Byte)
  /-- the byte after a start byte reaches the receiver (R159) -/
  | invalidLength (st : Station) (b : Byte)
  | frameGap (st : Station)
  | characterError (st : Station)
  | replySent (st : Station)
  | stationAttach (st : Station)
  | stationDetach (st : Station)
  -- the field link (07)
  | frameSend
  | timelyReply (r : FieldReply)
  | lateReply (r : FieldReply)
  /-- a field reply as its bytes after the start byte: length to check word (R129, R142) -/
  | replyDiscarded (bytes : List Byte)
  /-- the reply deadline of the in-flight entry with this module and wire sequence number (R131) -/
  | replyDeadlineExpiry (module : Fin 32) (seq : Word)
  | routinePollDue (module : Fin 32)
  | motionPollDue (m : Mover)
  | returnPollDue (module : Fin 32)
  /-- the merge window of the module's open frame (R123) -/
  | mergeWindowExpiry (module : Fin 32)
  -- movers (02)
  | travelTimeExpiry (m : Mover)
  | stallWindowExpiry (m : Mover)
  | settleTimeExpiry (m : Mover)
  | recoveryPauseEnd (m : Mover)
  -- local controls and claims (03, 04)
  | localControlPressed (c : Control)
  | localControlReleased (c : Control)
  | leaseExpiry (m : Mover)
  | override (m : Mover)
  | localHoldExpiry (m : Mover)
  -- loops and mat (03, 05)
  | loopOpen (l : Loop)
  | loopClosed (l : Loop)
  | matOccupied
  | matClear
  /-- the expiry deadline of the entry with this hold number (R114) -/
  | holdExpiry (hold : Byte)
  -- supplies (11)
  | mainLoss
  | resetAssert
  | mainGood (seen : Contacts)
  | resetRelease (seen : Contacts)
  | keepAliveLoss
  | keepAliveUp
deriving DecidableEq, Repr

end Sys2Proof
end

