-- ==== Sys2Proof/Config.lean ====
section
/-! DEFINITION. The free values: constants with no body, of which nothing can be proved. What the part fixes in
figures (durations, machine figures, limits) is in Machine/Figures.lean. -/

namespace Sys2Proof

/-- A free value (log entry 16): the result of an item of a confirmed frame whose reply carries no result for it.
R120 obliges a module to give one result per item; the spec states nothing for a reply that does not. It is applied
to `State.draws`, which advances at each use. -/
opaque Config.missingResult : Nat → ItemResult

end Sys2Proof
end

