-- ==== Sys2Proof/Machine/State.lean ====
section
/-! DEFINITION. The state of the part as plain data: every table, list and record of the blocks of
spec/00_scope.md Table 0-1, the queue of waiting commands, and the part's outputs. INVENTORY.md, State, lists every
field with its rule and its reset value. -/

namespace Sys2Proof.Machine

/-! ### Families of like things -/

/-- One item per station. -/
structure PerStation (α : Type) where
  one   : α
  two   : α
  three : α
deriving DecidableEq, Repr

def PerStation.get {α : Type} (p : PerStation α) : Station → α
  | .one => p.one | .two => p.two | .three => p.three

def PerStation.set {α : Type} (p : PerStation α) (x : α) : Station → PerStation α
  | .one => { p with one := x } | .two => { p with two := x } | .three => { p with three := x }

/-- One item per mover. -/
structure PerMover (α : Type) where
  hatch    : α
  platform : α
  windlass : α
deriving DecidableEq, Repr

def PerMover.get {α : Type} (p : PerMover α) : Mover → α
  | .hatch => p.hatch | .platform => p.platform | .windlass => p.windlass

def PerMover.set {α : Type} (p : PerMover α) (x : α) : Mover → PerMover α
  | .hatch => { p with hatch := x } | .platform => { p with platform := x } | .windlass => { p with windlass := x }

/-! ### Zone Control (spec/01) -/

inductive PointKind where
  /-- NONE: an entry of this kind is unconfigured (R1). -/
  | unconfigured
  | switched | dimmed | shade | climate | sense
deriving DecidableEq, Repr

/-- A field module and one of its terminals (Table 0-2). -/
structure Binding where
  module   : Fin 32
  terminal : Fin 16
deriving DecidableEq, Repr

/-- Delivery states (Table 1-2). -/
inductive Delivery where
  | settled | queued | sent | lost | faulted
deriving DecidableEq, Repr

/-- Last writer (Table 1-1). -/
inductive Writer where
  | station (n : Station) | scene (n : Station) | force | restart
deriving DecidableEq, Repr

/-- A Point Table entry (Table 1-1). Levels and fades are numbers; `confirmed` is none while unknown.
`pendingRewrite` belongs to the write-pending mark: the pending write was handed under (d) of R5 (log entry 9). -/
structure PointEntry where
  kind           : PointKind
  zone           : Nat
  binding        : Binding
  requested      : Int
  effective      : Int
  confirmed      : Option Int
  delivery       : Delivery
  writePending   : Bool
  pendingRewrite : Bool
  lastWriter     : Writer
  lastFade       : Int
deriving DecidableEq, Repr

/-- A Zone Directory record (R14). -/
structure ZoneRecord where
  exterior     : Bool
  navSensitive : Bool
  dark         : Option Nat
  powerUp      : Option Nat
deriving DecidableEq, Repr

structure SceneItem where
  point : Nat
  level : Int
  fade  : Int
deriving DecidableEq, Repr

/-- A scene record, keyed by zone and scene number (R15). -/
structure SceneRecord where
  zone  : Nat
  scene : Nat
  items : List SceneItem
deriving DecidableEq, Repr

/-- The conditions of the Force List (R19). -/
inductive ForceCondition where
  | platformBelowDeck | moverActive | estop | swimmer | underway | hatchOpen
deriving DecidableEq, Repr

structure ForceEntry where
  condition : ForceCondition
  point     : Nat
  level     : Int
deriving DecidableEq, Repr

/-! ### Configuration Store (spec/10) -/

/-- A station profile: the authority set and the mover set (R87). -/
structure Profile where
  mode      : Bool
  attend    : Bool
  sceneEdit : Bool
  maint     : Bool
  movers    : PerMover Bool
deriving DecidableEq, Repr

/-- The mover section (R48). -/
structure MoverParams where
  modules     : PerMover (Fin 32)
  deckLevel   : Int
  chainLength : Int
deriving DecidableEq, Repr

/-- A Substitution Map entry; `active` is ACTIVE, otherwise VOID (Table 8-2). -/
structure SubstEntry where
  failed : Binding
  spare  : Binding
  active : Bool
deriving DecidableEq, Repr

inductive ResumePolicy where
  | restore | dark
deriving DecidableEq, Repr

/-- A staging copy: the station that holds it, its section code, and the records staged (R178). -/
structure Staging where
  station : Station
  section_ : Nat
  records : List (List Word)
deriving DecidableEq, Repr

/-! ### Station Ports (spec/09, spec/10) -/

/-- Result field of a reply (Table 9-5). -/
inductive Result where
  | done | accepted | refused | ended
deriving DecidableEq, Repr

/-- Reason and note field of a reply (Table 9-6). -/
inductive Reason where
  | noReason
  | unknownOrder | badTarget | badOperand | modeInvalid | noAuthority
  | tagInUse | intakeFull
  | notHolder | heldBy
  | busy | notHomed | moverFaulted | notAtHome
  | permitEstop | permitSwimmer | permitInterlock | permitLink
  | halted | motionFault | claimLost | superseded
  | holdFull | declined | holdExpired
  | storeFull | badItem
  | spareTaken | selfSpare | spareInUse | alreadyMapped | mapFull | spareDirect
  | configLocked
  | forced | doneWithLoss
deriving DecidableEq, Repr

/-- An event set: event code c at weight 2 to the power c (R171). -/
abbrev EventSet := BitVec 23

/-- The name of an intake entry: station, tag, and the number the model gives each taken order, because an answer
is matched to the entry and not to the tag (R166; log entry 31). -/
structure OrderRef where
  station : Station
  tag     : Byte
  serial  : Nat
deriving DecidableEq, Repr

inductive IntakeStage where
  | waiting | answered
deriving DecidableEq, Repr

/-- An intake entry (Table 9-3). -/
structure IntakeEntry where
  serial : Nat
  tag    : Byte
  code   : Byte
  target : Word
  attrs  : Byte
  words  : List Word
  stage  : IntakeStage
deriving DecidableEq, Repr

/-- A reply placed for sending (R167): `serial` names the intake entry it answers, or is none for an intake
refusal (R162). -/
structure Placed where
  serial : Option Nat
  tag    : Byte
  result : Result
  reason : Reason
  data   : List Word
deriving DecidableEq, Repr

/-- The receiver of a port: hunting, or assembling with the bytes that followed the start byte (R159). -/
inductive Receiver where
  | hunting
  | assembling (bytes : List Byte)
deriving DecidableEq, Repr

/-- An entry of a report list (R109). -/
structure Report where
  orderer : Station
  isZone  : Bool
  number  : Nat
  value   : Int
deriving DecidableEq, Repr

/-- Class of a fault record (Table 10-2). -/
inductive FaultClass where
  | noFault | field | mover | order | supply
deriving DecidableEq, Repr

/-- Subject kinds of a fault record (Table 10-2). -/
inductive SubjectKind where
  | nothing | mover | point | zone | binding | module
deriving DecidableEq, Repr

/-- A fault record (Table 10-2). `code` is a reason code or a fault code. -/
structure FaultRecord where
  cls           : FaultClass
  code          : Byte
  subjectKind   : SubjectKind
  subject       : Nat
  positionValid : Bool
  position      : Int
deriving DecidableEq, Repr

/-- A Station Record with its port (R157, R158, R167). `atn` is the attention line, asserted or not; `tx` holds the
bytes of the reply frame last sent whole. -/
structure StationRecord where
  attached : Bool
  intake   : List IntakeEntry
  replies  : List Placed
  receiver : Receiver
  status   : EventSet
  enable   : EventSet
  reports  : List Report
  fault    : FaultRecord
  atn      : Bool
  tx       : List Byte
deriving DecidableEq, Repr

/-! ### Motion Controller (spec/02, spec/03) -/

inductive MoverState where
  | unhomed | homing | idle | moving | settling | recovering | halting | halted | faulted
deriving DecidableEq, Repr

/-- Fault codes (Table 2-2). -/
inductive FaultCode where
  | noFault | stall | overload | limitMismatch | travelTime | homeNotFound | linkLost | powerLostInMotion
deriving DecidableEq, Repr

/-- The recovery pause (R35): its 2 s moment, whether that moment has passed, and whether the halt frame placed on
entry has been confirmed. -/
structure Pause where
  deadline  : Nat
  elapsed   : Bool
  confirmed : Bool
deriving DecidableEq, Repr

/-- The live press of a mover (R57). -/
structure LivePress where
  control : Control
  driving : Bool
deriving DecidableEq, Repr

/-- The motion polls of a mover's module (R136): not running, due, or waiting for the next due moment. -/
inductive MotionPoll where
  | idle
  | due
  | waiting (dueAt : Nat)
deriving DecidableEq, Repr

/-- The movement of a homing (R30; log entry 35): the sum of the distances between successive reported positions since
the first send of the HOME frame, and the last position reported since then. -/
structure Travelled where
  total : Int
  last  : Option Int
deriving DecidableEq, Repr

/-- A Mover Record (Table 2-1), with the timers of R30 to R32 and R35, the drive statuses already acted on within
the present command (R25), the motion polls (R136) and the live press (R57). -/
structure MoverRecord where
  state        : MoverState
  position     : Int
  valid        : Bool
  target       : Option Int
  attempts     : Nat
  recovery     : Bool
  attended     : Bool
  noRetry      : Bool
  command      : Option Word
  haltCause    : Option Reason
  linkLost     : Bool
  lastFault    : FaultCode
  deferred     : Option OrderRef
  travel       : Option Nat
  stall        : Option Nat
  settle       : Option Nat
  pause        : Option Pause
  homingTravel : Option Travelled
  seen         : List DriveStatus
  poll         : MotionPoll
  live         : Option LivePress
deriving DecidableEq, Repr

/-- The windlass declaration (R55): the value, the SET_CHAIN_OUT that made it (none once its station detached,
R56), and the module its preset frame was handed for (log entry 22). -/
structure Declaration where
  value  : Int
  order  : Option OrderRef
  module : Fin 32
deriving DecidableEq, Repr

/-! ### Claim Arbiter (spec/04) -/

inductive Holder where
  | nobody
  | station (n : Station)
  /-- LOCAL, the claimant that stands for the local controls -/
  | deck
deriving DecidableEq, Repr

inductive LeaseKind where
  | rest | motion | attended
deriving DecidableEq, Repr

inductive Ending where
  /-- NONE -/
  | notEnding
  | releasing | expiring | revoked | detached
deriving DecidableEq, Repr

/-- A claim record (Table 4-1) with the mover's Claim Wait List, oldest first (R65), and the RELEASE that waits for
the mover's rest (R73). -/
structure ClaimRecord where
  holder       : Holder
  lease        : Option LeaseKind
  deadline     : Option Nat
  ending       : Ending
  override     : Option Nat
  localHold    : Option Nat
  passPending  : Bool
  releaseOrder : Option OrderRef
  waiters      : List OrderRef
deriving DecidableEq, Repr

/-- A local control input: open; pressed and passed to the Claim Arbiter; pressed and screened out or reassigned
(R90); or held since the restart, which is not a press (R62). -/
inductive ControlState where
  | released | passed | screened | heldSinceRestart
deriving DecidableEq, Repr

structure ControlStates where
  hatchButton    : ControlState
  platformUp     : ControlState
  platformDown   : ControlState
  windlassHeave  : ControlState
  windlassPayOut : ControlState
deriving DecidableEq, Repr

/-! ### Condition Monitor (spec/05) -/

inductive VesselMode where
  | berthed | anchored | underway | setup
deriving DecidableEq, Repr

/-- The Condition Set (Table 5-1). The switches are kept values (R83); `seen` says per machine whether its module
has replied since the restart or since the load that named it (R83, R101, R104). -/
structure ConditionSet where
  mode        : VesselMode
  swimmer     : Bool
  latch       : Bool
  bowOpen     : Bool
  sternOpen   : Bool
  garageOpen  : Bool
  matOccupied : Bool
  hatchClosed : Bool
  hatchOpen   : Bool
  latchMade   : Bool
  stowed      : Bool
  deckSwitch  : Bool
  anchorHome  : Bool
  seen        : PerMover Bool
deriving DecidableEq, Repr

/-! ### Concurrence Unit (spec/06) -/

/-- A watch window (Table 6-1); `isHold` is kind HOLD, otherwise REPORT. -/
structure Window where
  isOpen : Bool
  base   : Nat
  width  : Nat
  isHold : Bool
deriving DecidableEq, Repr

/-- The order a held entry keeps (Table 6-3). -/
inductive HeldOrder where
  | setPoint (point : Nat) (level fade : Int)
  | recall (zone scene : Nat)
deriving DecidableEq, Repr

/-- A Held Order List entry (Table 6-3); `marks` carries window index w at weight 2 to the power w. -/
structure HeldEntry where
  hold     : Byte
  order    : OrderRef
  what     : HeldOrder
  judged   : Nat
  marks    : BitVec 6
  deadline : Nat
deriving DecidableEq, Repr

/-! ### Field Link Controller (spec/07) and Channel Map (spec/08) -/

/-- How an item of a LEVELS frame stands to its point: live; frozen by a reload (R125); detached by a substitution
change (R148). -/
inductive Tie where
  | live | frozen | detached
deriving DecidableEq, Repr

/-- An item of a LEVELS frame (Table 7-1); `level` is the level carried at the latest send, or the level it was
frozen at. -/
structure Item where
  point   : Nat
  binding : Binding
  fade    : Int
  level   : Option Int
  tie     : Tie
deriving DecidableEq, Repr

/-- The content of a queue frame by kind (Table 7-1). A HOME carries the preset value when it is a preset. A POLL
says whether it serves a latch check (R51) and whether it is a return poll (R137). -/
inductive FrameBody where
  | levels (items : List Item)
  | drive (m : Mover) (target tolerance : Int)
  | home (m : Mover) (preset : Option Int)
  | terminalWrite (terminal : Fin 16) (level : Int) (order : OrderRef)
  | poll (latchCheck isReturn : Bool)
deriving DecidableEq, Repr

/-- Where a queue frame stands (Table 7-2); in flight it carries its reply deadline. A record is `confirmed` only
within the step that takes its reply: it leaves the queue once its results are passed on (R129). -/
inductive Stage where
  | unsent
  | inFlight (deadline : Nat)
  | awaitingResend
  | confirmed
deriving DecidableEq, Repr

/-- A queue frame record (Table 7-1); a fence mark is the serial of the FENCE it belongs to. -/
structure QueueFrame where
  module   : Fin 32
  body     : FrameBody
  isOpen   : Bool
  mergeAt  : Nat
  stage    : Stage
  attempt  : Nat
  marks    : List Nat
  seq      : Option Word
  retired  : Bool
deriving DecidableEq, Repr

inductive HaltStage where
  | waitingToSend | inFlight
deriving DecidableEq, Repr

/-- The halt frame a Halt Slot holds (R132); `seq` is none before the first send; `attempt` is the next attempt's
number. -/
structure HaltFrame where
  seq     : Option Word
  attempt : Nat
  stage   : HaltStage
deriving DecidableEq, Repr

inductive SideKind where
  | halt (m : Mover)
  | motionPoll (m : Mover)
deriving DecidableEq, Repr

/-- An entry of the In-Flight List other than a queue frame: a halt frame or a motion poll (R127). -/
structure SideFlight where
  module   : Fin 32
  seq      : Word
  deadline : Nat
  kind     : SideKind
deriving DecidableEq, Repr

/-- A Module Record (R119, R127, R133 to R137, R140, R143). `failed` carries terminal t at weight 2 to the power t.
`lastTimely` is the moment of the last timely reply, or the restart while the module has given none (R135); `firstPoll`
says that the routine poll the bring-up made due is still to be handed (R141; log entry 14); `returnDue` is the moment
the next return poll falls due (R137). The in-flight count is computed from the In-Flight List. -/
structure ModuleRecord where
  present     : Bool
  score       : Nat
  failed      : BitVec 16
  snapshot    : Option (Vector Word 16)
  heldCommand : Option Word
  lastTimely  : Nat
  firstPoll   : Bool
  returnDue   : Option Nat
deriving DecidableEq, Repr

/-- A Fence Table entry (Table 7-3). -/
structure FenceEntry where
  order      : OrderRef
  pendingSet : List Nat
  losses     : Nat
deriving DecidableEq, Repr

/-! ### Supply Monitor (spec/11) -/

/-- The Keep Record of a mover (Table 11-1). -/
structure KeepMover where
  active   : Bool
  position : Int
  valid    : Bool
  faulted  : Option FaultCode
  holder   : Holder
deriving DecidableEq, Repr

/-- The Keep Records (Table 11-1); `notices` is true where PENDING. -/
structure KeepRecords where
  valid   : Bool
  movers  : PerMover KeepMover
  mode    : VesselMode
  swimmer : Bool
  latch   : Bool
  notices : PerStation Bool
deriving DecidableEq, Repr

/-- A mover's restart fault (R185). -/
structure RestartFault where
  code     : FaultCode
  position : Int
  valid    : Bool
  holder   : Holder
deriving DecidableEq, Repr

/-! ### The state -/

/-- The whole part. -/
structure State where
  /-- the model's clock in milliseconds (log entry 1) -/
  now            : Nat
  /-- the commands that wait, first in first out -/
  pending        : List Instr
  -- Supply Monitor
  heldDown       : Bool
  mainLost       : Bool
  resetAsserted  : Bool
  keepAliveGood  : Bool
  keep           : KeepRecords
  restartFaults  : PerMover (Option RestartFault)
  -- Station Ports
  stations       : PerStation StationRecord
  nextSerial     : Nat
  -- Zone Control; the entry at index p is point p, and entries beyond the end are of kind NONE (log entry 37)
  points         : List PointEntry
  zones          : List ZoneRecord
  scenes         : List SceneRecord
  forces         : List ForceEntry
  -- Configuration Store
  profiles       : PerStation Profile
  params         : MoverParams
  substs         : List SubstEntry
  resume         : ResumePolicy
  blank          : Bool
  locked         : Bool
  staging        : Option Staging
  -- Motion Controller
  movers         : PerMover MoverRecord
  declaration    : Option Declaration
  creepReference : Int
  creepFlag      : Bool
  brakeApplied   : Bool
  latchCheck     : Bool
  -- Claim Arbiter and local controls
  claims         : PerMover ClaimRecord
  controls       : ControlStates
  footBlocked    : Bool
  -- Condition Monitor
  cond           : ConditionSet
  -- Concurrence Unit; window w of station s is at index 2(s − 1) + w
  windows        : Vector Window 6
  held           : List HeldEntry
  nextHold       : Byte
  -- Field Link Controller
  queue          : List QueueFrame
  awaitingRoom   : List QueueFrame
  haltSlots      : PerMover (Option HaltFrame)
  sideFlights    : List SideFlight
  modules        : Vector ModuleRecord 32
  wireSeq        : Word
  fences         : List FenceEntry
  /-- a queue record freed in the step being taken (log entry 8); false between steps -/
  roomFreed      : Bool
  /-- the bytes of the field frame last sent -/
  linkOut        : List Byte
  /-- what the free value of a missing item result is applied to (log entry 16) -/
  draws          : Nat
deriving DecidableEq, Repr

/-! ### Reset -/

/-- The detached values of a Station Record (R157). -/
def StationRecord.detachedValues : StationRecord :=
  { attached := false, intake := [], replies := [], receiver := .hunting, status := 0, enable := BitVec.allOnes 23,
    reports := [], fault := ⟨.noFault, 0, .nothing, 0, false, 0⟩, atn := false, tx := [] }

/-- The cold values of a Mover Record (R46, R62). -/
def MoverRecord.cold : MoverRecord :=
  { state := .unhomed, position := 0, valid := false, target := none, attempts := 0, recovery := false,
    attended := false, noRetry := false, command := none, haltCause := none, linkLost := false,
    lastFault := .noFault, deferred := none, travel := none, stall := none, settle := none, pause := none,
    homingTravel := none, seen := [], poll := .idle, live := none }

/-- The values of a claim record after either restart (R81). -/
def ClaimRecord.free : ClaimRecord :=
  { holder := .nobody, lease := none, deadline := none, ending := .notEnding, override := none, localHold := none,
    passPending := false, releaseOrder := none, waiters := [] }

/-- The values of a Module Record after either restart, taken at `moment` (R135, R141); a routine poll is due for a
module in use. -/
def ModuleRecord.afterRestart (moment : Nat) (inUse : Bool) : ModuleRecord :=
  { present := true, score := 8, failed := 0, snapshot := none, heldCommand := none, lastTimely := moment,
    firstPoll := inUse, returnDue := none }

/-- The values of a watch window after either restart (R117). -/
def Window.afterRestart : Window := ⟨false, 0, 0, false⟩

/-- The items of the Keep Records a cold restart leaves (R181), with every notice CLEAR and the given validity. -/
def KeepRecords.cold (valid : Bool) : KeepRecords :=
  let m : KeepMover := ⟨false, 0, false, none, .nobody⟩
  { valid := valid, movers := ⟨m, m, m⟩, mode := .berthed, swimmer := false, latch := true,
    notices := ⟨false, false, false⟩ }

/-- The profiles of a blank store (R86). -/
def blankProfiles : PerStation Profile :=
  let no : Profile := ⟨false, false, false, false, ⟨false, false, false⟩⟩
  ⟨⟨true, true, true, true, ⟨true, true, true⟩⟩, no, no⟩

/-- The part right after reset: a new part, its store blank, just brought up by a cold restart (R46, R62, R81, R86,
R103, R117, R141, R157, R177, R181, R185). A blank store names modules 29 to 31 alone (R177). The contacts are seen closed, clear and open (log entry 4). -/
def State.reset : State :=
  { now := 0
    pending := []
    heldDown := false
    mainLost := false
    resetAsserted := false
    keepAliveGood := true
    keep := KeepRecords.cold false
    restartFaults := ⟨none, none, none⟩
    stations := ⟨.detachedValues, .detachedValues, .detachedValues⟩
    nextSerial := 0
    points := []
    zones := []
    scenes := []
    forces := []
    profiles := blankProfiles
    params := { modules := ⟨29, 30, 31⟩, deckLevel := 400, chainLength := 1200 }
    substs := []
    resume := .dark
    blank := true
    locked := false
    staging := none
    movers := ⟨.cold, .cold, .cold⟩
    declaration := none
    creepReference := 0
    creepFlag := false
    brakeApplied := false
    latchCheck := false
    claims := ⟨.free, .free, .free⟩
    controls := ⟨.released, .released, .released, .released, .released⟩
    footBlocked := false
    cond :=
      { mode := .setup, swimmer := false, latch := true, bowOpen := false, sternOpen := false, garageOpen := false,
        matOccupied := false, hatchClosed := false, hatchOpen := false, latchMade := false, stowed := false,
        deckSwitch := false, anchorHome := false, seen := ⟨false, false, false⟩ }
    windows := Vector.replicate 6 Window.afterRestart
    held := []
    nextHold := 0
    queue := []
    awaitingRoom := []
    haltSlots := ⟨none, none, none⟩
    sideFlights := []
    modules := Vector.ofFn fun k => ModuleRecord.afterRestart 0 (decide (29 ≤ k.val))
    wireSeq := 0
    fences := []
    roomFreed := false
    linkOut := []
    draws := 0 }

/-! ### The reasons a step can stop -/

/-- Why a step stops with a fault. The part has no condition the spec stops it on: no meaning answers with a fault,
so the type has no constructor. -/
inductive Fault where
deriving DecidableEq, Repr

/-- Why a step refuses. -/
inductive Refusal where
  /-- Raised by an arm of `exec` whose command has no meaning yet; safe: nothing is claimed of it. No arm is left
  that raises it. -/
  | notModelled (mnemonic : String)
deriving DecidableEq, Repr

end Sys2Proof.Machine
end

