-- ==== Sys2Proof/Machine/Codes.lean ====
section
/-! DEFINITION. The codes of the spec's tables: order codes (Table 9-4), results and reasons (Tables 9-5, 9-6),
events (Table 10-1), mover and claim codes (Tables 2-2, 4-2), point codes (Table 1-3), condition codes (Table 5-2),
frame kinds and results (Tables 7-5, 7-6), and fault record classes (Table 10-2). -/

namespace Sys2Proof.Machine

/-! ### Order codes (Table 9-4) -/

def codeReadPoint : Byte := 0x01
def codeSetPoint : Byte := 0x02
def codeRecallScene : Byte := 0x03
def codeStoreScene : Byte := 0x04
def codeEraseScene : Byte := 0x05
def codeClaim : Byte := 0x10
def codeRelease : Byte := 0x11
def codeRenew : Byte := 0x12
def codeMove : Byte := 0x13
def codeHome : Byte := 0x14
def codeHalt : Byte := 0x15
def codeReady : Byte := 0x16
def codeResetMover : Byte := 0x17
def codeSetChainOut : Byte := 0x18
def codeSetMode : Byte := 0x20
def codeSetSwimmer : Byte := 0x21
def codeClearSwimmer : Byte := 0x22
def codeClearEstop : Byte := 0x23
def codeReadConditions : Byte := 0x24
def codeOpenWatch : Byte := 0x30
def codeCloseWatch : Byte := 0x31
def codeConcur : Byte := 0x32
def codeDecline : Byte := 0x33
def codeListHeld : Byte := 0x34
def codeFence : Byte := 0x40
def codeAssignSpare : Byte := 0x50
def codeReleaseSpare : Byte := 0x51
def codeTerminalWrite : Byte := 0x52
def codeReadModule : Byte := 0x53
def codeReadFault : Byte := 0x60
def codeReadEvents : Byte := 0x61
def codeAckEvents : Byte := 0x62
def codeSetEnables : Byte := 0x63
def codeLoadConfig : Byte := 0x70
def codeLockConfig : Byte := 0x71

/-- Every code of Table 9-4. -/
def orderCodes : List Byte :=
  [codeReadPoint, codeSetPoint, codeRecallScene, codeStoreScene, codeEraseScene, codeClaim, codeRelease, codeRenew,
   codeMove, codeHome, codeHalt, codeReady, codeResetMover, codeSetChainOut, codeSetMode, codeSetSwimmer,
   codeClearSwimmer, codeClearEstop, codeReadConditions, codeOpenWatch, codeCloseWatch, codeConcur, codeDecline,
   codeListHeld, codeFence, codeAssignSpare, codeReleaseSpare, codeTerminalWrite, codeReadModule, codeReadFault,
   codeReadEvents, codeAckEvents, codeSetEnables, codeLoadConfig, codeLockConfig]

/-! ### Results and reasons (Tables 9-5, 9-6) -/

def Result.code : Result → Byte
  | .done => 0x00 | .accepted => 0x01 | .refused => 0x02 | .ended => 0x03

def Reason.code : Reason → Byte
  | .noReason => 0x00
  | .unknownOrder => 0x01 | .badTarget => 0x02 | .badOperand => 0x03 | .modeInvalid => 0x04 | .noAuthority => 0x05
  | .tagInUse => 0x08 | .intakeFull => 0x09
  | .notHolder => 0x10 | .heldBy => 0x11
  | .busy => 0x18 | .notHomed => 0x19 | .moverFaulted => 0x1A | .notAtHome => 0x1B
  | .permitEstop => 0x20 | .permitSwimmer => 0x21 | .permitInterlock => 0x22 | .permitLink => 0x23
  | .halted => 0x28 | .motionFault => 0x29 | .claimLost => 0x2A | .superseded => 0x2B
  | .holdFull => 0x30 | .declined => 0x31 | .holdExpired => 0x32
  | .storeFull => 0x38 | .badItem => 0x39
  | .spareTaken => 0x40 | .selfSpare => 0x41 | .spareInUse => 0x42 | .alreadyMapped => 0x43 | .mapFull => 0x44
  | .spareDirect => 0x45
  | .configLocked => 0x48
  | .forced => 0x60 | .doneWithLoss => 0x61

/-! ### Events (Table 10-1) -/

inductive Event where
  | claimGranted | claimRevoked | claimExpired | motionDone | motionFault | localPress | localOverride | localRefused
  | holdPending | holdResolved | watchReport | pointLost | terminalFault | moduleAbsent | modulePresent | spareVoid
  | estopChange | swimmerChange | modeChange | chainCreep | latchState | supplyRestored | frameError
deriving DecidableEq, Repr

def Event.code : Event → Nat
  | .claimGranted => 0 | .claimRevoked => 1 | .claimExpired => 2 | .motionDone => 3 | .motionFault => 4
  | .localPress => 5 | .localOverride => 6 | .localRefused => 7 | .holdPending => 8 | .holdResolved => 9
  | .watchReport => 10 | .pointLost => 11 | .terminalFault => 12 | .moduleAbsent => 13 | .modulePresent => 14
  | .spareVoid => 15 | .estopChange => 16 | .swimmerChange => 17 | .modeChange => 18 | .chainCreep => 19
  | .latchState => 20 | .supplyRestored => 21 | .frameError => 22

/-! ### Points (Table 1-3) -/

def PointKind.code : PointKind → Nat
  | .unconfigured => 0 | .switched => 1 | .dimmed => 2 | .shade => 3 | .climate => 4 | .sense => 5

def Delivery.code : Delivery → Nat
  | .settled => 0 | .queued => 1 | .sent => 2 | .lost => 3 | .faulted => 4

def stationNumber : Station → Nat
  | .one => 1 | .two => 2 | .three => 3

def Writer.code : Writer → Nat
  | .station n => stationNumber n | .scene n => 10 + stationNumber n | .force => 20 | .restart => 30

/-! ### Movers and claims (Tables 2-2, 4-2) -/

def moverNumber : Mover → Nat
  | .hatch => 0 | .platform => 1 | .windlass => 2

def MoverState.code : MoverState → Nat
  | .unhomed => 0 | .homing => 1 | .idle => 2 | .moving => 3 | .settling => 4 | .recovering => 5 | .halting => 6
  | .halted => 7 | .faulted => 8

def FaultCode.code : FaultCode → Nat
  | .noFault => 0 | .stall => 1 | .overload => 2 | .limitMismatch => 3 | .travelTime => 4 | .homeNotFound => 5
  | .linkLost => 6 | .powerLostInMotion => 7

def Holder.code : Holder → Nat
  | .nobody => 0 | .station n => stationNumber n | .deck => 4

def Ending.code : Ending → Nat
  | .notEnding => 0 | .releasing => 1 | .expiring => 2 | .revoked => 3 | .detached => 4

def LeaseKind.code : LeaseKind → Nat
  | .rest => 0 | .motion => 1 | .attended => 2

/-! ### Conditions (Table 5-2) -/

def VesselMode.code : VesselMode → Nat
  | .berthed => 0 | .anchored => 1 | .underway => 2 | .setup => 3

/-! ### Field frames (Tables 7-5, 7-6) and TERMINAL_WRITE replies (Table 8-1) -/

def frameKindCode : FrameKind → Byte
  | .levels => 0x01 | .drive => 0x02 | .home => 0x03 | .terminalWrite => 0x04 | .poll => 0x05 | .halt => 0x06

def itemResultCode : ItemResult → Nat
  | .applied => 0 | .fault => 1 | .notFitted => 2

/-! ### Fault records (Table 10-2) -/

def FaultClass.code : FaultClass → Nat
  | .noFault => 0 | .field => 1 | .mover => 2 | .order => 3 | .supply => 4

def SubjectKind.code : SubjectKind → Nat
  | .nothing => 0 | .mover => 1 | .point => 2 | .zone => 3 | .binding => 4 | .module => 5

end Sys2Proof.Machine
end

