-- ==== Sys2Proof/Machine/Figures.lean ====
section
/-! DEFINITION. The figures fixed in the part: durations in milliseconds, limits of the lists, and the machine
figures of Table 3-1. -/

namespace Sys2Proof.Machine

/-! ### Durations, in milliseconds -/

/-- The lease length by kind (R66). -/
def leaseLength : LeaseKind → Nat
  | .rest => 120000 | .motion => 6000 | .attended => 1500

/-- The override timer (R76). -/
def overrideTime : Nat := 3000

/-- The local hold (R78). -/
def localHoldTime : Nat := 10000

/-- The expiry of a held order (R110). -/
def holdTime : Nat := 30000

/-- The merge window's idle time (R123). -/
def mergeTime : Nat := 40

/-- The reply time of a STEADY and of a SLOW module (R128). -/
def replyTime (steady : Bool) : Nat := if steady then 20 else 60

/-- Motion polls fall due this long after the previous send (R136). -/
def motionPollTime : Nat := 25

/-- Routine polls fall due this long after a timely reply (R135). -/
def routinePollTime : Nat := 100

/-- Return polls fall due this long after the absence or the previous return poll (R137). -/
def returnPollTime : Nat := 1000

/-- The first of the two events that end a recovery pause (R35). -/
def recoveryTime : Nat := 2000

/-! ### Limits -/

def pointCount : Nat := 512        -- R1
def zoneCount : Nat := 48          -- R14
def sceneCapacity : Nat := 192     -- R15
def sceneItemCapacity : Nat := 16  -- R15
def intakeCapacity : Nat := 4      -- R162
def refusalCapacity : Nat := 4     -- R162
def reportCapacity : Nat := 8      -- R109
def heldCapacity : Nat := 8        -- R108
def admissionLimit : Nat := 18     -- R121
def itemCapacity : Nat := 8        -- R122
def unconfirmedLimit : Nat := 12   -- R126
def mapCapacity : Nat := 16        -- R145
def scoreMax : Nat := 15           -- R133
def steadyScore : Nat := 8         -- R133
def weakScore : Nat := 4           -- R133
def returnScore : Nat := 4         -- R137
def creepLimit : Int := 5          -- R54

/-! ### Machine figures (Table 3-1) -/

def tolerance : Mover → Int
  | .hatch => 5 | .platform => 5 | .windlass => 1

/-- None for the windlass (R48). -/
def travelTimeLimit : Mover → Option Nat
  | .hatch => some 90000 | .platform => some 120000 | .windlass => none

def stallWindow : Mover → Nat
  | .hatch => 3000 | .platform => 3000 | .windlass => 4000

/-- The homing travel allowance (R30, Table 3-1). -/
def homingAllowance (chainLength : Int) : Mover → Int
  | .hatch => 1250 | .platform => 1250 | .windlass => chainLength + 100

/-- The settle time (R50, R52): 1 s for a hatch whose target is 0, otherwise 0.5 s. -/
def settleTime (m : Mover) (target : Int) : Nat :=
  match m with
  | .hatch => if target = 0 then 1000 else 500
  | _ => 500

/-- The top of a machine's scale (R26, Table 3-1). -/
def scaleTop (chainLength : Int) : Mover → Int
  | .hatch => 1000 | .platform => 1000 | .windlass => chainLength

/-- A position lies within tolerance of a target when the two differ by no more than the tolerance (R48). -/
def withinTolerance (m : Mover) (a b : Int) : Bool :=
  decide (a - b ≤ tolerance m ∧ b - a ≤ tolerance m)

/-- The movers in the order the rules take them. -/
def allMovers : List Mover := [.hatch, .platform, .windlass]

def allStations : List Station := [.one, .two, .three]

end Sys2Proof.Machine
end

