-- ==== Sys2Proof/Machine/Operands.lean ====
section
/-! DEFINITION. Reading operands: how an order's target, attribute bits and words are read (R161), which levels and
fades are valid (R2), binding codes (Table 8-1), event sets as two words (R171), and how data words are formed. -/

namespace Sys2Proof.Machine

/-! ### Attribute bits (Table 9-1) -/

def noRetryBit (o : OrderFrame) : Bool := o.attrs.getLsbD 0
def attendedBit (o : OrderFrame) : Bool := o.attrs.getLsbD 1
def waitBit (o : OrderFrame) : Bool := o.attrs.getLsbD 2

/-! ### Targets -/

/-- A mover target (R23). -/
def moverOf (w : Word) : Option Mover :=
  match w.toNat with
  | 0 => some .hatch | 1 => some .platform | 2 => some .windlass | _ => none

/-- The movers a HALT names: FFFFh names all three (R40). -/
def haltTargets (w : Word) : Option (List Mover) :=
  if w = 0xFFFF then some allMovers else (moverOf w).map fun m => [m]

def stationOf (n : Nat) : Option Station :=
  match n with
  | 1 => some .one | 2 => some .two | 3 => some .three | _ => none

def modeOf (w : Word) : Option VesselMode :=
  match w.toNat with
  | 0 => some .berthed | 1 => some .anchored | 2 => some .underway | 3 => some .setup | _ => none

/-- A binding code: sixteen times the module plus the terminal, 0 to 511 (Table 8-1). -/
def bindingOf (w : Word) : Option Binding :=
  if w.toNat < 512 then some ⟨Fin.ofNat 32 (w.toNat / 16), Fin.ofNat 16 (w.toNat % 16)⟩ else none

def Binding.code (b : Binding) : Nat := 16 * b.module.val + b.terminal.val

/-- A module target, 0 to 31 (R140). -/
def moduleOf (w : Word) : Option (Fin 32) :=
  if h : w.toNat < 32 then some ⟨w.toNat, h⟩ else none

/-! ### Levels and fades (R2) -/

def PointKind.writable : PointKind → Bool
  | .unconfigured | .sense => false
  | .switched | .dimmed | .shade | .climate => true

def levelValid (k : PointKind) (level : Int) : Bool :=
  match k with
  | .switched => level == 0 || level == 1000
  | .dimmed | .shade => decide (0 ≤ level ∧ level ≤ 1000)
  | .climate => decide (150 ≤ level ∧ level ≤ 320)
  | .sense | .unconfigured => false

def fadeValid (fade : Int) : Bool := decide (0 ≤ fade ∧ fade ≤ 600)

/-- The level DARK gives a point (R21): 0, or 150 for a CLIMATE point. -/
def darkLevel : PointKind → Int
  | .climate => 150
  | _ => 0

/-! ### Words out -/

def wordOf (i : Int) : Word := Word.ofInt i
def wordOfNat (n : Nat) : Word := BitVec.ofNat 16 n
def flagWord (b : Bool) : Word := if b then 1 else 0

/-- An unknown level is −1 (Table 1-3), an absent target −1 (Table 2-2). -/
def wordOrMinusOne (x : Option Int) : Word := wordOf (x.getD (-1))

/-- An event set as two words (R171). -/
def eventWords (e : EventSet) : List Word := [e.extractLsb' 0 16, (e.extractLsb' 16 7).setWidth 16]

/-- Two words read as an event set: weights that name no event are ignored (R171). -/
def eventSetOf (lo hi : Word) : EventSet := (hi.extractLsb' 0 7 ++ lo : BitVec 23)

end Sys2Proof.Machine
end

