-- ==== Sys2Proof/Machine/Flags.lean ====
section
/-! DEFINITION. The flags of the part: event status sets and the attention lines (R158, R171), and the writing of
fault records (R175). -/

namespace Sys2Proof.Machine

/-! ### Station Records -/

def State.station (s : State) (n : Station) : StationRecord := s.stations.get n

def State.setStation (s : State) (n : Station) (r : StationRecord) : State :=
  { s with stations := s.stations.set r n }

def State.modStation (s : State) (n : Station) (f : StationRecord → StationRecord) : State :=
  s.setStation n (f (s.station n))

/-! ### Events (R171) -/

def Event.bit (e : Event) : EventSet := 1#23 <<< e.code

/-- To raise an event in a station is to add it to its status set, if the station is attached (R171). -/
def StationRecord.raise (e : Event) (r : StationRecord) : StationRecord :=
  if r.attached then { r with status := r.status ||| e.bit } else r

def raise (e : Event) (n : Station) (s : State) : State := s.modStation n (·.raise e)

/-- Raised in all attached stations. -/
def raiseAll (e : Event) (s : State) : State :=
  { s with stations := ⟨s.stations.one.raise e, s.stations.two.raise e, s.stations.three.raise e⟩ }

/-! ### Attention lines (R158) -/

/-- What R158 asks of the line: asserted while the station is attached and its status and enable sets share a
member; deasserted otherwise, and while the part is held down (R182). -/
def lineOf (heldDown : Bool) (r : StationRecord) : Bool :=
  r.attached && (r.status &&& r.enable != 0) && !heldDown

def StationRecord.setLine (heldDown : Bool) (r : StationRecord) : StationRecord :=
  { r with atn := lineOf heldDown r }

/-- The ports set their lines again. It is done once at the end of every step (log entry 8). -/
def setLines (s : State) : State :=
  { s with stations :=
      ⟨s.stations.one.setLine s.heldDown, s.stations.two.setLine s.heldDown, s.stations.three.setLine s.heldDown⟩ }

/-! ### Fault records (R175) -/

/-- What a fault record is about (Table 10-2). -/
structure Subject where
  kind   : SubjectKind
  number : Nat
deriving DecidableEq, Repr

def Subject.nothing : Subject := ⟨.nothing, 0⟩

/-- A writing replaces the whole record, and is made only in an attached station (R175). -/
def writeFault (n : Station) (rec : FaultRecord) (s : State) : State :=
  s.modStation n fun r => if r.attached then { r with fault := rec } else r

/-- A fault record about a subject: the position and its validity are those of the Mover Record at the writing when
the subject is a mover, and 0 otherwise (Table 10-2, R175). -/
def faultAbout (cls : FaultClass) (code : Byte) (subj : Subject) (s : State) : FaultRecord :=
  match subj.kind, subj.number with
  | .mover, 0 => ⟨cls, code, .mover, 0, s.movers.hatch.valid, s.movers.hatch.position⟩
  | .mover, 1 => ⟨cls, code, .mover, 1, s.movers.platform.valid, s.movers.platform.position⟩
  | .mover, 2 => ⟨cls, code, .mover, 2, s.movers.windlass.valid, s.movers.windlass.position⟩
  | kind, number => ⟨cls, code, kind, number, false, 0⟩

/-- The record NO_FAULT (R176). -/
def FaultRecord.none : FaultRecord := ⟨.noFault, 0, .nothing, 0, false, 0⟩

/-- The subject of an order's record: its target, named by the kind the target has; for ASSIGN_SPARE and
RELEASE_SPARE the failed binding carried, when present and in range (R175). -/
def orderSubject (code : Byte) (target : Word) (words : List Word) : Subject :=
  if code = codeReadPoint ∨ code = codeSetPoint then ⟨.point, target.toNat⟩
  else if code = codeRecallScene ∨ code = codeStoreScene ∨ code = codeEraseScene then ⟨.zone, target.toNat⟩
  else if code ∈ [codeClaim, codeRelease, codeRenew, codeMove, codeHome, codeHalt, codeReady, codeResetMover,
      codeSetChainOut] then ⟨.mover, target.toNat⟩
  else if code = codeAssignSpare ∨ code = codeReleaseSpare then
    match words with
    | w :: _ => if w.toNat < 512 then ⟨.binding, w.toNat⟩ else .nothing
    | [] => .nothing
  else if code = codeTerminalWrite then ⟨.binding, target.toNat⟩
  else if code = codeReadModule then ⟨.module, target.toNat⟩
  else .nothing

def Reason.isPermit : Reason → Bool
  | .permitEstop | .permitSwimmer | .permitInterlock | .permitLink => true
  | _ => false

/-- The reasons of the first row of Table 10-3. -/
def Reason.isOrderClass : Reason → Bool
  | .modeInvalid | .noAuthority | .configLocked | .notHolder | .heldBy | .busy | .notHomed | .moverFaulted
  | .notAtHome => true
  | _ => false

/-- The substitution reasons of Table 10-3. -/
def Reason.isFieldClass : Reason → Bool
  | .selfSpare | .alreadyMapped | .spareTaken | .spareInUse | .mapFull | .spareDirect => true
  | _ => false

/-- Table 10-3: the class of the record a reply writes in its orderer, or none when it writes nothing. -/
def replyFaultClass (code : Byte) (res : Result) (why : Reason) : Option FaultClass :=
  match res with
  | .refused =>
    if code = codeAssignSpare ∨ code = codeReleaseSpare then some .field
    else if why.isOrderClass || why.isPermit then some .order
    else if why.isFieldClass then some .field
    else none
  | .ended =>
    if (code = codeMove ∨ code = codeHome) ∧ (why = .halted ∨ why = .claimLost ∨ why.isPermit) then some .order
    else if (code = codeSetChainOut ∨ code = codeTerminalWrite) ∧ why = .permitLink then some .field
    else none
  | .done | .accepted => none

end Sys2Proof.Machine
end

