-- ==== Sys2Proof/Machine/Ops.lean ====
section
/-! DEFINITION. The named operations over the part's records: reading and writing a record, the intake and the
answers (R162 to R167), the checks of an order in their order (R165), and what every step ends with. -/

namespace Sys2Proof.Machine

/-! ### Records -/

def State.mover (s : State) (m : Mover) : MoverRecord := s.movers.get m
def State.setMover (s : State) (m : Mover) (r : MoverRecord) : State := { s with movers := s.movers.set r m }
def State.modMover (s : State) (m : Mover) (f : MoverRecord → MoverRecord) : State := s.setMover m (f (s.mover m))

def State.claim (s : State) (m : Mover) : ClaimRecord := s.claims.get m
def State.setClaim (s : State) (m : Mover) (r : ClaimRecord) : State := { s with claims := s.claims.set r m }
def State.modClaim (s : State) (m : Mover) (f : ClaimRecord → ClaimRecord) : State := s.setClaim m (f (s.claim m))

def State.module (s : State) (k : Fin 32) : ModuleRecord := s.modules[k]
def State.setModule (s : State) (k : Fin 32) (r : ModuleRecord) : State := { s with modules := s.modules.set k r }
def State.modModule (s : State) (k : Fin 32) (f : ModuleRecord → ModuleRecord) : State :=
  s.setModule k (f (s.module k))

/-- The field module of a machine (R23, R63: read afresh at each use). -/
def State.moduleOfMover (s : State) (m : Mover) : Fin 32 := s.params.modules.get m

/-- The mover a module drives, if any (R48: the three are distinct). -/
def State.moverOfModule (s : State) (k : Fin 32) : Option Mover :=
  allMovers.find? fun m => s.moduleOfMover m == k

/-- A configured point (R1). -/
def State.point? (s : State) (p : Nat) : Option PointEntry :=
  match s.points[p]? with
  | some e => if e.kind = .unconfigured then none else some e
  | none => none

/-- A configured writable point. -/
def State.writable? (s : State) (p : Nat) : Option PointEntry :=
  match s.point? p with
  | some e => if e.kind.writable then some e else none
  | none => none

def State.modPoint (s : State) (p : Nat) (f : PointEntry → PointEntry) : State :=
  { s with points := s.points.modify p f }

/-- Every point number the table lists. -/
def State.pointNumbers (s : State) : List Nat := List.range s.points.length

/-- A Zone Directory record; one the section does not list is blank (R14, Table 10-4). -/
def State.zone (s : State) (z : Nat) : ZoneRecord := (s.zones[z]?).getD ⟨false, false, none, none⟩

def State.scene? (s : State) (zone scene : Nat) : Option SceneRecord :=
  s.scenes.find? fun r => r.zone == zone && r.scene == scene

def State.profile (s : State) (n : Station) : Profile := s.profiles.get n

/-- The channel map's answer: the binding in force of a point whose primary binding is `b` (R1, R145). -/
def inForce (substs : List SubstEntry) (b : Binding) : Binding :=
  match substs.find? fun e => e.active && e.failed == b with
  | some e => e.spare
  | none => b

def State.bindingInForce (s : State) (e : PointEntry) : Binding := inForce s.substs e.binding

def isActive : MoverState → Bool
  | .homing | .moving | .settling | .recovering | .halting => true
  | .unhomed | .idle | .halted | .faulted => false

/-- HOMING, MOVING and SETTLING (R23). -/
def isMotion : MoverState → Bool
  | .homing | .moving | .settling => true
  | .unhomed | .idle | .halted | .faulted | .recovering | .halting => false

/-- The states the condition halts reach (R92, R96, R100). -/
def isMotionOrRecovering (st : MoverState) : Bool := isMotion st || st == .recovering

/-- A station holds a mover with ending NONE (R75). -/
def State.holds (s : State) (n : Station) (m : Mover) : Bool :=
  (s.claim m).holder == .station n && (s.claim m).ending == .notEnding

/-- The station that holds a mover's claim, whatever its ending (R42). -/
def State.holderStation (s : State) (m : Mover) : Option Station :=
  match (s.claim m).holder with
  | .station n => some n
  | .nobody | .deck => none

def raiseHolder (e : Event) (m : Mover) (s : State) : State :=
  match s.holderStation m with
  | some n => raise e n s
  | none => s

/-- At the expiry of a deadline the clock has reached it (log entry 2). -/
def State.reach (s : State) (deadline : Nat) : State := { s with now := max s.now deadline }

/-! ### Local controls -/

def moverOfControl : Control → Mover
  | .hatchButton => .hatch
  | .platformUp | .platformDown => .platform
  | .windlassHeave | .windlassPayOut => .windlass

def controlsOf : Mover → List Control
  | .hatch => [.hatchButton]
  | .platform => [.platformUp, .platformDown]
  | .windlass => [.windlassHeave, .windlassPayOut]

def State.control (s : State) : Control → ControlState
  | .hatchButton => s.controls.hatchButton
  | .platformUp => s.controls.platformUp
  | .platformDown => s.controls.platformDown
  | .windlassHeave => s.controls.windlassHeave
  | .windlassPayOut => s.controls.windlassPayOut

def State.setControl (s : State) (c : Control) (x : ControlState) : State :=
  { s with controls :=
      match c with
      | .hatchButton => { s.controls with hatchButton := x }
      | .platformUp => { s.controls with platformUp := x }
      | .platformDown => { s.controls with platformDown := x }
      | .windlassHeave => { s.controls with windlassHeave := x }
      | .windlassPayOut => { s.controls with windlassPayOut := x } }

/-- The arbiter's set of a mover's controls that are now pressed (R76): those whose press passed the screen. -/
def State.pressed (s : State) (m : Mover) : List Control :=
  (controlsOf m).filter fun c => s.control c == .passed

/-! ### The intake and the answers -/

def refusalCount (l : List Placed) : Nat := (l.filter fun p => p.serial.isNone).length

/-- An arrival that R162 does not take: an intake refusal is placed, or, the list of refusals being full, the
arrival is discarded and FRAME_ERROR raised. -/
def placeRefusal (n : Station) (tag : Byte) (why : Reason) (s : State) : State :=
  if refusalCount (s.station n).replies < refusalCapacity then
    s.modStation n fun r => { r with replies := r.replies ++ [⟨none, tag, .refused, why, []⟩] }
  else raise .frameError n s

/-- The entry of a taken order (R163). -/
def enterIntake (code : Byte) (o : OrderFrame) (s : State) : State :=
  { s.modStation o.station fun r =>
      { r with intake := r.intake ++ [⟨s.nextSerial, o.tag, code, o.target, o.attrs, o.words, .waiting⟩] } with
    nextSerial := s.nextSerial + 1 }

/-- The answer of a taken order (R166): its entry becomes ANSWERED, its reply is placed, and the reply's fault
record is written (Table 10-3), about the given subject or the order's own. An answer whose entry has been dropped
is discarded. The answers of one event are placed as the model's effects come (log entry 55). -/
def answerAbout (subj : Option Subject) (r : OrderRef) (res : Result) (why : Reason) (data : List Word) (s : State) :
    State :=
  match (s.station r.station).intake.find? fun e => e.serial == r.serial with
  | none => s
  | some e =>
    let s1 := s.modStation r.station fun rec =>
      { rec with
        intake := rec.intake.map fun x => if x.serial == r.serial then { x with stage := .answered } else x
        replies := rec.replies ++ [⟨some r.serial, r.tag, res, why, data⟩] }
    match replyFaultClass e.code res why with
    | none => s1
    | some cls =>
      writeFault r.station (faultAbout cls why.code (subj.getD (orderSubject e.code e.target e.words)) s1) s1

def answer (r : OrderRef) (res : Result) (why : Reason) (data : List Word) (s : State) : State :=
  answerAbout none r res why data s

/-- DONE with data words. -/
def done (r : OrderRef) (data : List Word) (s : State) : State := answer r .done .noReason data s

/-- A refusal and its data words. -/
abbrev Denial := Reason × List Word

/-- One check of an order: it denies when `bad` holds. -/
def deny (bad : Bool) (why : Reason) (data : List Word := []) : Option Denial :=
  if bad then some (why, data) else none

/-- The checks of an order in their order: the first that fails gives the refusal (R165). -/
def firstDenial : List (Option Denial) → Option Denial
  | [] => none
  | some d :: _ => some d
  | none :: l => firstDenial l

def refuse (r : OrderRef) (d : Denial) (s : State) : State := answer r .refused d.1 d.2 s

/-- An order judged by its checks: refused by the first that fails, otherwise carried out. -/
def judged (r : OrderRef) (checks : List (Option Denial)) (go : State → State) (s : State) : State :=
  match firstDenial checks with
  | some d => refuse r d s
  | none => go s

/-- The arrival of an order frame (R160 to R164): ignored while the station is detached (R154); not taken when its
tag is in use or the intake holds 4 entries (R162); otherwise taken and judged. -/
def arrive (code : Byte) (o : OrderFrame) (judge : OrderRef → State → State) (s : State) : State :=
  if !(s.station o.station).attached then s
  else
    let s1 := s.modStation o.station fun r => { r with receiver := .hunting }
    if (s.station o.station).intake.any fun e => e.tag == o.tag then placeRefusal o.station o.tag .tagInUse s1
    else if intakeCapacity ≤ (s.station o.station).intake.length then placeRefusal o.station o.tag .intakeFull s1
    else judge ⟨o.station, o.tag, s.nextSerial⟩ (enterIntake code o s1)

end Sys2Proof.Machine
end

