-- ==== Sys2Proof/Machine/Frames.lean ====
section
/-! DEFINITION. The byte layouts: the order frame and the reply frame of a station port (Tables 9-1, 9-2; R159 to
R161), the field frame and the reply frame of the field link (Tables 7-5, 7-6; R142). -/

namespace Sys2Proof.Machine

/-! ### Words and sums of bytes -/

/-- High byte first (spec/00_scope.md, 4, BYTE ORDER). -/
def wordBytes (w : Word) : List Byte := [w.extractLsb' 8 8, w.extractLsb' 0 8]

def bytesWord (hi lo : Byte) : Word := hi ++ lo

def wordsOfBytes : List Byte → List Word
  | hi :: lo :: rest => bytesWord hi lo :: wordsOfBytes rest
  | _ => []

/-- The sum of bytes modulo 256. -/
def byteSum (l : List Byte) : Byte := l.foldl (· + ·) 0

/-- The sum of bytes modulo 65536. -/
def wideSum (l : List Byte) : Word := l.foldl (fun acc b => acc + b.setWidth 16) 0

/-! ### The order frame (Table 9-1) -/

def orderStart : Byte := 0xA5

/-- A length byte is valid when it is odd and lies from 5 to 53 (R159). -/
def lengthValid (b : Byte) : Bool := b.toNat % 2 == 1 && decide (5 ≤ b.toNat ∧ b.toNat ≤ 53)

/-- A frame is complete when, after the length byte, that many bytes and the check byte have come (R159).
`bytes` is what followed the start byte. -/
def frameComplete (bytes : List Byte) : Bool :=
  match bytes with
  | [] => false
  | len :: _ => bytes.length == len.toNat + 2

/-- The fields of a completed frame (R161): tag, order code, target, the bits of its sixth byte, and the operand
words. -/
def parseOrder (n : Station) (bytes : List Byte) : Option (Byte × OrderFrame) :=
  match bytes with
  | _ :: tag :: code :: th :: tl :: attrs :: rest =>
    some (code, ⟨n, tag, bytesWord th tl, attrs, wordsOfBytes rest.dropLast⟩)
  | _ => none

/-- The bytes of an order frame from byte 1 to the check byte. -/
def orderBytes (code : Byte) (o : OrderFrame) : List Byte :=
  let body := [BitVec.ofNat 8 (5 + 2 * o.words.length), o.tag, code] ++ wordBytes o.target ++ [o.attrs]
    ++ o.words.flatMap wordBytes
  body ++ [- byteSum body]

/-! ### The reply frame (Table 9-2) -/

/-- The bytes of a reply frame, start byte included. -/
def replyBytes (p : Placed) : List Byte :=
  let body := [BitVec.ofNat 8 (3 + 2 * p.data.length), p.tag, p.result.code, p.reason.code] ++ p.data.flatMap wordBytes
  0x5A :: body ++ [- byteSum body]

/-! ### The field frame (Table 7-5) -/

/-- An attempt number as it is sent: a halt frame past 255 attempts carries 255. -/
def attemptByte (n : Nat) : Byte := BitVec.ofNat 8 (min n 255)

def FrameBody.kind : FrameBody → FrameKind
  | .levels _ => .levels
  | .drive _ _ _ => .drive
  | .home _ _ => .home
  | .terminalWrite _ _ _ => .terminalWrite
  | .poll _ _ => .poll

def itemBytes (i : Item) : List Byte :=
  BitVec.ofNat 8 i.binding.terminal.val :: wordBytes (wordOf (i.level.getD 0)) ++ wordBytes (wordOf i.fade)

def FrameBody.bytes : FrameBody → List Byte
  | .levels items => BitVec.ofNat 8 items.length :: items.flatMap itemBytes
  | .drive _ target tol => wordBytes (wordOf target) ++ wordBytes (wordOf tol)
  | .home _ none => 0x00 :: wordBytes 0
  | .home _ (some v) => 0x01 :: wordBytes (wordOf v)
  | .terminalWrite t level _ => BitVec.ofNat 8 t.val :: wordBytes (wordOf level)
  | .poll _ _ => []

/-- The bytes of a field frame, start byte included. -/
def fieldBytes (k : Fin 32) (seq : Word) (attempt : Nat) (kind : FrameKind) (body : List Byte) : List Byte :=
  let inner := BitVec.ofNat 8 k.val :: wordBytes seq ++ [attemptByte attempt, frameKindCode kind] ++ body
  let counted := BitVec.ofNat 8 inner.length :: inner
  0xC3 :: counted ++ wordBytes (- wideSum counted)

/-! ### The reply of a module (Table 7-6) -/

def kindOfByte (b : Byte) : Option FrameKind :=
  match b.toNat with
  | 1 => some .levels | 2 => some .drive | 3 => some .home | 4 => some .terminalWrite | 5 => some .poll
  | 6 => some .halt | _ => none

def resultOfByte (b : Byte) : Option ItemResult :=
  match b.toNat with
  | 0 => some .applied | 1 => some .fault | 2 => some .notFitted | _ => none

def statusOfByte (b : Byte) : Option DriveStatus :=
  match b.toNat with
  | 0 => some .running | 1 => some .stopped | 2 => some .stalled | 3 => some .overload | 4 => some .limitMismatch
  | _ => none

def resultsOfBytes : List Byte → Option (List ItemResult)
  | [] => some []
  | b :: rest =>
    match resultOfByte b, resultsOfBytes rest with
    | some r, some l => some (r :: l)
    | _, _ => none

/-- The drive report part: absent, or six bytes after the mark; answers the report and the bytes left. -/
def driveOfBytes : List Byte → Option (Option DriveReport × List Byte)
  | 0x00#8 :: rest => some (none, rest)
  | 0x01#8 :: st :: ch :: cl :: pp :: ph :: pl :: rest =>
    match statusOfByte st, pp with
    | some status, 0x00#8 => some (some ⟨status, bytesWord ch cl, none⟩, rest)
    | some status, 0x01#8 => some (some ⟨status, bytesWord ch cl, some (bytesWord ph pl)⟩, rest)
    | _, _ => none
  | _ => none

/-- Machine switches and the sixteen terminals. -/
def tailOfBytes (l : List Byte) : Option (Word × Vector Word 16) :=
  match l with
  | sh :: sl :: rest =>
    let ws := wordsOfBytes rest
    if h : ws.toArray.size = 16 ∧ rest.length = 32 then some (bytesWord sh sl, ⟨ws.toArray, h.1⟩) else none
  | _ => none

/-- The check word of a reply makes the wide sum of the bytes before it, plus itself, zero; `bytes` is byte 1 (the
length) to the check word (R142). -/
def checkWordRight (bytes : List Byte) : Bool :=
  let n := bytes.length - 2
  match bytes.drop n with
  | [hi, lo] => wideSum (bytes.take n) + bytesWord hi lo == 0
  | _ => false

/-- A reply frame read by Table 7-6 from its bytes after the start byte; none when its check word is wrong or the
bytes are not of the table's form (R129; log entry 33). -/
def parseReply (bytes : List Byte) : Option FieldReply :=
  if !checkWordRight bytes then none
  else
    match bytes.take (bytes.length - 2) with
    | len :: module :: sh :: sl :: attempt :: kind :: r :: rest =>
      if len.toNat + 1 ≠ bytes.length - 2 ∨ 8 < r.toNat then none
      else
        match kindOfByte kind, resultsOfBytes (rest.take r.toNat), driveOfBytes (rest.drop r.toNat) with
        | some k, some results, some (drive, l) =>
          match tailOfBytes l with
          | some (switches, terminals) =>
            some ⟨module, bytesWord sh sl, attempt, k, results, drive, switches, terminals⟩
          | none => none
        | _, _, _ => none
    | _ => none

end Sys2Proof.Machine
end

