-- ==== Sys2Proof/Machine/Link.lean ====
section
/-! DEFINITION. The Outbound Queue and the Halt Slots (R121 to R124, R132), the counts of the In-Flight List (R127),
the Fence Table (R139), and where writes and frames are placed. -/

namespace Sys2Proof.Machine

/-! ### The queue -/

/-- A new queue. A record that has left it frees room (R122). -/
def State.withQueue (s : State) (q : List QueueFrame) : State :=
  { s with queue := q, roomFreed := s.roomFreed || decide (q.length < s.queue.length) }

/-- A frame record as it enters the queue, closed and unsent. -/
def QueueFrame.fresh (k : Fin 32) (body : FrameBody) : QueueFrame :=
  { module := k, body := body, isOpen := false, mergeAt := 0, stage := .unsent, attempt := 0, marks := [], seq := none,
    retired := false }

def Stage.isInFlight : Stage → Bool
  | .inFlight _ => true
  | .unsent | .awaitingResend | .confirmed => false

/-- In flight in the sense of Table 0-2: sent, and not yet answered, resent to its limit or declared lost. -/
def Stage.isSent : Stage → Bool
  | .inFlight _ | .awaitingResend => true
  | .unsent | .confirmed => false

/-- A closed frame of this stage waits to be sent (R126). -/
def Stage.awaitsSend : Stage → Bool
  | .unsent | .awaitingResend => true
  | .inFlight _ | .confirmed => false

/-- A DRIVE or HOME frame of the mover. -/
def QueueFrame.commands (f : QueueFrame) (m : Mover) : Bool :=
  match f.body with
  | .drive n _ _ => n == m
  | .home n _ => n == m
  | .levels _ | .terminalWrite _ _ _ | .poll _ _ => false

def QueueFrame.isPoll (f : QueueFrame) : Bool :=
  match f.body with
  | .poll _ _ => true
  | .drive _ _ _ | .home _ _ | .levels _ | .terminalWrite _ _ _ => false

def QueueFrame.items (f : QueueFrame) : List Item :=
  match f.body with
  | .levels items => items
  | .drive _ _ _ | .home _ _ | .terminalWrite _ _ _ | .poll _ _ => []

def QueueFrame.withItems (f : QueueFrame) (items : List Item) : QueueFrame :=
  match f.body with
  | .levels _ => { f with body := .levels items }
  | .drive _ _ _ | .home _ _ | .terminalWrite _ _ _ | .poll _ _ => f

/-- The unconfirmed count: the queue frames in flight (R127). -/
def State.unconfirmed (s : State) : Nat := (s.queue.filter fun f => f.stage.isInFlight).length

/-- A module's in-flight count: its frames in the In-Flight List, of every kind (R127). -/
def State.inFlightCount (s : State) (k : Fin 32) : Nat :=
  (s.queue.filter fun f => f.stage.isInFlight && f.module == k).length
    + (s.sideFlights.filter fun f => f.module == k).length

/-- STEADY with a score of 8 or more, otherwise SLOW (R133). -/
def ModuleRecord.steady (r : ModuleRecord) : Bool := decide (steadyScore ≤ r.score)

/-- A module has room while its in-flight count is below its limit (R127). -/
def State.hasRoom (s : State) (k : Fin 32) : Bool :=
  decide (s.inFlightCount k < if (s.module k).steady then 3 else 1)

/-- A module is in use while the Configuration Store names it as the module of a point's primary binding, as a
binding in the Substitution Map, or as the module of a mover (R119). The primary binding of an entry of kind NONE does
not count (log entry 43). -/
def State.inUse (s : State) (k : Fin 32) : Bool :=
  s.points.any (fun e => e.kind != .unconfigured && e.binding.module == k)
    || s.substs.any (fun e => e.failed.module == k || e.spare.module == k)
    || allMovers.any (fun m => s.moduleOfMover m == k)

/-- An unsent DRIVE or HOME frame of the mover waits in the queue. -/
def State.commandUnsent (s : State) (m : Mover) : Bool :=
  s.queue.any fun f => f.commands m && f.stage == .unsent

/-! ### Closing, withdrawing, retiring -/

/-- The module's open frame closes (R123). -/
def closeOpen (k : Fin 32) (s : State) : State :=
  { s with queue := s.queue.map fun f => if f.module == k && f.isOpen then { f with isOpen := false } else f }

/-- Every open frame closes (R138). -/
def closeAllOpen (s : State) : State :=
  { s with queue := s.queue.map fun f => { f with isOpen := false } }

/-- The mover's unsent DRIVE or HOME frames are withdrawn; with the record its fence marks are gone (R124, R139). -/
def withdrawCommands (m : Mover) (s : State) : State :=
  s.withQueue (s.queue.filter fun f => !(f.commands m && f.stage == .unsent))

/-- The mover's DRIVE or HOME frames in flight are retired, their marks counting as confirmed; those awaiting resend
leave the queue at once (R124). -/
def retireCommands (m : Mover) (s : State) : State :=
  s.withQueue <|
    (s.queue.filter fun f => !(f.commands m && f.stage == .awaitingResend)).map fun f =>
      if f.commands m && f.stage.isInFlight then { f with retired := true, marks := [] } else f

/-- A DRIVE or HOME frame of the mover is handed and admitted (R121): the Halt Slot is emptied (R132), an unsent
command frame of the mover withdrawn, an older one in flight retired (R124), and the module's open frame closed
first (R123). -/
def handCommand (m : Mover) (body : FrameBody) (s : State) : State :=
  let k := s.moduleOfMover m
  let s1 := { s with haltSlots := s.haltSlots.set none m }
  let s2 := closeOpen k (retireCommands m (withdrawCommands m s1))
  { s2 with queue := s2.queue ++ [QueueFrame.fresh k body] }

/-- A halt frame is placed in the mover's Halt Slot (R132). A slot that holds one is left as it stands. -/
def placeHalt (m : Mover) (s : State) : State :=
  match s.haltSlots.get m with
  | some _ => s
  | none =>
    closeOpen (s.moduleOfMover m) { s with haltSlots := s.haltSlots.set (some ⟨none, 0, .waitingToSend⟩) m }

/-! ### Frames admitted only while the queue holds fewer than 18 records (R121) -/

/-- A TERMINAL_WRITE or POLL enters; a TERMINAL_WRITE closes its module's open frame first (R123). -/
def enterQueue (f : QueueFrame) (s : State) : State :=
  let s1 := if f.isPoll then s else closeOpen f.module s
  { s1 with queue := s1.queue ++ [f] }

/-- A TERMINAL_WRITE or POLL is handed: admitted, or held until a record frees (R121, R123). -/
def handFrame (f : QueueFrame) (s : State) : State :=
  if s.queue.length < admissionLimit then enterQueue f s else { s with awaitingRoom := s.awaitingRoom ++ [f] }

/-! ### Writes (R122) -/

def addMarks (marks : List Nat) (f : QueueFrame) : QueueFrame :=
  { f with marks := f.marks ++ marks.filter fun x => !f.marks.contains x }

/-- The open frame that takes a write by case (a), the fade of its item replaced, or by case (b), an item added and
the merge window restarted; an eighth item closes the frame (R122, R123). -/
def takeWrite (p : Nat) (b : Binding) (fade : Int) (now : Nat) (f : QueueFrame) : QueueFrame :=
  let same := fun i : Item => i.point == p && i.binding == b && i.tie == .live
  if f.items.any same then f.withItems (f.items.map fun i => if same i then { i with fade := fade } else i)
  else
    { f.withItems (f.items ++ [⟨p, b, fade, none, .live⟩]) with
      mergeAt := now + mergeTime
      isOpen := decide (f.items.length + 1 < itemCapacity) }

/-- A write is placed by the first of cases (a) to (c) of R122; none when no case applies. The frame that takes it
receives the given fence marks (R139). That a write handed in a step after a record has left the queue finds that room,
ahead of held frames and pending writes, is the model's choice (log entry 51). -/
def placeWrite (p : Nat) (b : Binding) (fade : Int) (marks : List Nat) (s : State) : Option State :=
  if s.queue.any fun f => f.module == b.module && f.isOpen then
    some { s with queue := s.queue.map fun f =>
      if f.module == b.module && f.isOpen then addMarks marks (takeWrite p b fade s.now f) else f }
  else if s.queue.length < admissionLimit then
    some { s with queue := s.queue ++
      [addMarks marks { QueueFrame.fresh b.module (.levels [⟨p, b, fade, none, .live⟩]) with
        isOpen := true, mergeAt := s.now + mergeTime }] }
  else none

/-- A write is placed, or the point takes the write-pending mark (R122 (d)); a point that carries the mark gains
nothing (R5). -/
def placeOrMark (p : Nat) (e : PointEntry) (rewrite : Bool) (s : State) : State :=
  if e.writePending then s
  else
    match placeWrite p (s.bindingInForce e) (if rewrite then 0 else e.lastFade) [] s with
    | some s1 => s1
    | none => s.modPoint p fun e => { e with writePending := true, pendingRewrite := rewrite }

/-- R7: the delivery state when a write is handed. -/
def Delivery.onHanded : Delivery → Delivery
  | .settled | .queued | .lost => .queued
  | .sent => .sent
  | .faulted => .faulted

/-- Zone Control hands a write for a writable point (R5); `rewrite` is event (d), whose write carries fade 0. Nothing
is handed while the module of the binding in force is ABSENT. -/
def handWrite (p : Nat) (rewrite : Bool) (s : State) : State :=
  match s.writable? p with
  | none => s
  | some e =>
    if !(s.module (s.bindingInForce e).module).present then s
    else placeOrMark p e rewrite (s.modPoint p fun e => { e with delivery := e.delivery.onHanded })

/-! ### Freed records (R122, R123) -/

/-- Frames held for want of admission enter, in the order they were held, while there is room (R123). -/
def admitHeld : List QueueFrame → State → State
  | [], s => s
  | f :: rest, s =>
    if s.queue.length < admissionLimit then
      admitHeld rest (enterQueue f { s with awaitingRoom := rest })
    else s

/-- A pending write is placed and its mark cleared; fences that wait for it mark the frame that takes it (R139). The frame
stays open to later writes (R122), for which these fences then wait too (log entry 48). -/
def placePending (p : Nat) (s : State) : State :=
  match s.writable? p with
  | none => s
  | some e =>
    if !e.writePending then s
    else
      let marks := (s.fences.filter fun f => f.pendingSet.contains p).map fun f => f.order.serial
      match placeWrite p (s.bindingInForce e) (if e.pendingRewrite then 0 else e.lastFade) marks s with
      | none => s
      | some s1 =>
        { s1.modPoint p fun e => { e with writePending := false, pendingRewrite := false } with
          fences := s1.fences.map fun f => { f with pendingSet := f.pendingSet.filter fun q => q != p } }

/-- Held frames are admitted, then pending writes are placed in ascending point order (R122, R123), with the room that
the writes handed in the step have left (log entry 51). -/
def useRoom (s : State) : State :=
  let s1 := admitHeld s.awaitingRoom s
  s1.pointNumbers.foldl (fun s p => placePending p s) { s1 with roomFreed := false }

/-! ### Fences (R139) -/

/-- A marked frame is lost: the loss count of each fence that marked it rises by 1. -/
def countLoss (marks : List Nat) (s : State) : State :=
  { s with fences := s.fences.map fun f =>
      if marks.contains f.order.serial then { f with losses := f.losses + 1 } else f }

/-- A pending write is lost with its mark, or only leaves: the point leaves every pending set, and the loss count
rises where `lost` (R139). -/
def dropPendingFromFences (p : Nat) (lost : Bool) (s : State) : State :=
  { s with fences := s.fences.map fun f =>
      if f.pendingSet.contains p then
        { f with pendingSet := f.pendingSet.filter fun q => q != p, losses := f.losses + if lost then 1 else 0 }
      else f }

/-- A point's write-pending mark is cleared without a placement. -/
def clearPending (p : Nat) (lost : Bool) (s : State) : State :=
  match s.point? p with
  | some e =>
    if e.writePending then
      dropPendingFromFences p lost (s.modPoint p fun e => { e with writePending := false, pendingRewrite := false })
    else s
  | none => s

/-- A fence is complete when no frame bears its mark and its pending set is empty (R139). -/
def fenceComplete (q : List QueueFrame) (f : FenceEntry) : Bool :=
  f.pendingSet.isEmpty && !(q.any fun g => g.marks.contains f.order.serial)

/-- The FENCE of a complete entry is answered DONE with the loss count (R139). -/
def answerFence (s : State) (f : FenceEntry) : State :=
  answer f.order .done (if 0 < f.losses then .doneWithLoss else .noReason) [wordOfNat f.losses] s

/-- Complete entries leave the table and are answered, oldest first. -/
def completeFences (s : State) : State :=
  let ready := s.fences.filter (fenceComplete s.queue)
  ready.foldl answerFence { s with fences := s.fences.filter fun f => !fenceComplete s.queue f }

/-! ### The end of a step -/

/-- What every step ends with (log entry 8): room freed in it is used, complete fences are answered, and the
attention lines are set again. Writes that the step handed were placed before (log entry 51). -/
def finish (s : State) : State :=
  setLines (completeFences (if s.roomFreed then useRoom s else s))

/-- A step of the running part. While the part is held down no event but a supply's is taken (R182). A step leaves the
queue of waiting commands alone. -/
def run (f : State → State) (s : State) : Host.Outcome State Fault Refusal :=
  .next (if s.heldDown then s else { finish (f s) with pending := s.pending })

/-- A step of the Supply Monitor, taken whether or not the part is held down. -/
def runSupply (f : State → State) (s : State) : Host.Outcome State Fault Refusal :=
  .next { finish (f s) with pending := s.pending }

end Sys2Proof.Machine
end

