-- ==== Sys2Proof/Machine/Points.lean ====
section
/-! DEFINITION. Zone Control's laws: forced and effective levels (R4, R19, R20), writes (R3, R5), the delivery states
(R7 to R11), the failed terminals and the moving of points between bindings (R143, R144, R147 to R150). -/

namespace Sys2Proof.Machine

/-! ### Forces (R4, R19, R20) -/

def State.anyActive (s : State) : Bool := allMovers.any fun m => isActive (s.mover m).state

/-- A condition of the Force List holds (R19); switches are kept values (R102). -/
def State.forceHolds (s : State) : ForceCondition → Bool
  | .platformBelowDeck => s.cond.deckSwitch
  | .moverActive => s.anyActive
  | .estop => s.cond.latch
  | .swimmer => s.cond.swimmer
  | .underway => s.cond.mode == .underway
  | .hatchOpen => !s.cond.hatchClosed

/-- The forced levels of the active entries for a point. An entry that names a point of kind NONE or SENSE (R19), or
whose level is not valid for the kind a reload has given its point (R22), is never active. -/
def State.activeForces (s : State) (p : Nat) : List Int :=
  match s.writable? p with
  | none => []
  | some e =>
    (s.forces.filter fun f => f.point == p && levelValid e.kind f.level && s.forceHolds f.condition).map
      fun f => f.level

/-- The largest number of a list, or `base` when it is empty. -/
def largestOr (base : Int) : List Int → Int
  | [] => base
  | x :: l => l.foldl max x

/-- The law of forced levels (R4). -/
def State.effectiveLevel (s : State) (p : Nat) (e : PointEntry) : Int := largestOr e.requested (s.activeForces p)

/-- R20: a point's effective level is computed again after a force changed; if it changes, the last writer becomes
FORCE, the last fade 0, and a write is handed. -/
def recomputeForced (p : Nat) (s : State) : State :=
  match s.writable? p with
  | none => s
  | some e =>
    let level := s.effectiveLevel p e
    if level = e.effective then s
    else
      handWrite p false <|
        s.modPoint p fun e => { e with effective := level, lastWriter := .force, lastFade := 0 }

/-- The Condition Monitor evaluates the conditions and Zone Control takes what became active or inactive (R102, R20);
the points are taken in the order the entries name them (log entry 15). -/
def evaluateForces (s : State) : State :=
  (s.forces.map fun f => f.point).foldl (fun s p => recomputeForced p s) s

/-! ### Writes (R3, R5) -/

/-- A source writes a point: R3 sets the requested level, last writer and last fade; R4 the effective level; R5 hands
a write when the effective level changes, when no force is active, or when the point is FAULTED. -/
def writePoint (p : Nat) (level fade : Int) (w : Writer) (s : State) : State :=
  match s.writable? p with
  | none => s
  | some e =>
    let effective := s.effectiveLevel p { e with requested := level }
    let s1 := s.modPoint p fun e =>
      { e with requested := level, effective := effective, lastWriter := w, lastFade := fade }
    if effective ≠ e.effective ∨ (s.activeForces p).isEmpty ∨ e.delivery = .faulted then handWrite p false s1 else s1

/-! ### What remains for a point -/

def holdsLive (p : Nat) (f : QueueFrame) : Bool := f.items.any fun i => i.point == p && i.tie == .live

/-- An item for the point is in flight. -/
def State.itemSent (s : State) (p : Nat) : Bool := s.queue.any fun f => f.stage.isSent && holdsLive p f

/-- A write is pending or an item sits in an unsent frame. -/
def State.writeWaits (s : State) (p : Nat) (e : PointEntry) : Bool :=
  e.writePending || s.queue.any fun f => f.stage == .unsent && holdsLive p f

/-! ### Confirmation and loss (R8, R10) -/

/-- R8: an item of the point is confirmed APPLIED at the level it carried. -/
def itemApplied (p : Nat) (level : Int) (s : State) : State :=
  match s.writable? p with
  | none => s
  | some e =>
    let s1 := s.modPoint p fun e => { e with confirmed := some level }
    if s.itemSent p then s1.modPoint p fun e => { e with delivery := .sent }
    else if s.writeWaits p e then s1.modPoint p fun e => { e with delivery := .queued }
    else if level = e.effective then s1.modPoint p fun e => { e with delivery := .settled }
    else handWrite p true (s1.modPoint p fun e => { e with delivery := .queued })

/-- R10: a frame with an item of the point is declared lost. -/
def itemLost (p : Nat) (s : State) : State :=
  match s.writable? p with
  | none => s
  | some e =>
    let state := if s.itemSent p then Delivery.sent else if s.writeWaits p e then .queued else .lost
    let s1 := s.modPoint p fun e => { e with confirmed := none, delivery := state }
    if state = .lost ∧ e.delivery ≠ .lost then raiseAll .pointLost s1 else s1

/-! ### Moving points between bindings (R147, R149, R150, R153) -/

/-- Step 1 of R147 on one frame: the point's live items bound to `old` are taken from an unsent frame; step 2: they
are detached in a frame that has been sent, frozen at the level carried (R148). -/
def loosen (p : Nat) (old : Binding) (f : QueueFrame) : QueueFrame :=
  let mine := fun i : Item => i.point == p && i.binding == old && i.tie == .live
  if f.stage == .unsent then f.withItems (f.items.filter fun i => !mine i)
  else f.withItems (f.items.map fun i => if mine i then { i with tie := .detached } else i)

/-- A LEVELS frame left with no items is discarded (R124). -/
def QueueFrame.emptied (f : QueueFrame) : Bool :=
  match f.body with
  | .levels [] => true
  | _ => false

/-- R147 for one point whose binding in force has changed from `old`: its items are loosened, its confirmed level
becomes unknown, and its state and rewrite are set against the binding now in force. A SENSE point takes its state
from the presence of its module. -/
def movePoint (p : Nat) (old : Binding) (s : State) : State :=
  match s.point? p with
  | none => s
  | some e =>
    let b := s.bindingInForce e
    let k := s.module b.module
    if e.kind = .sense then
      s.modPoint p fun e => { e with confirmed := none, delivery := if k.present then .settled else .lost }
    else
      let s1 := s.withQueue ((s.queue.map (loosen p old)).filter fun f => !f.emptied)
      let s2 := s1.modPoint p fun e => { e with confirmed := none }
      if !k.present then clearPending p true (s2.modPoint p fun e => { e with delivery := .lost })
      else if k.failed.getLsbD b.terminal.val then
        placeOrMark p e false (s2.modPoint p fun e => { e with delivery := .faulted })
      else placeOrMark p e true (s2.modPoint p fun e => { e with delivery := .queued })

/-- The configured points whose primary binding is `b`, ascending. -/
def State.pointsBoundTo (s : State) (b : Binding) : List Nat :=
  s.pointNumbers.filter fun p =>
    match s.point? p with
    | some e => e.binding == b
    | none => false

/-- The points of a failed binding are moved, each taken whole before the next (R147). -/
def movePoints (failed old : Binding) (s : State) : State :=
  (s.pointsBoundTo failed).foldl (fun s p => movePoint p old s) s

/-! ### Results of terminals (R9, R143, R144, R150) -/

/-- R150: an ACTIVE entry whose spare is reported NOT_FITTED becomes VOID and its points move back. -/
def voidSpare (b : Binding) (s : State) : State :=
  match s.substs.find? fun e => e.active && e.spare == b with
  | none => s
  | some e =>
    let s1 := { s with substs := s.substs.map fun x => if x.failed == e.failed then { x with active := false } else x }
    raiseAll .spareVoid (movePoints e.failed b s1)

/-- R143: the terminal joins its module's failed set; TERMINAL_FAULT is raised when it was not a member. -/
def markFailed (b : Binding) (s : State) : State :=
  let k := s.module b.module
  if k.failed.getLsbD b.terminal.val then s
  else raiseAll .terminalFault (s.setModule b.module { k with failed := k.failed ||| (1#16 <<< b.terminal.val) })

/-- R144: the mark is cleared; no event. -/
def clearFailed (b : Binding) (s : State) : State :=
  s.modModule b.module fun k => { k with failed := k.failed &&& ~~~(1#16 <<< b.terminal.val) }

/-- The mark's effect on points: a point whose binding in force is the terminal becomes FAULTED, its confirmed level
unknown (R9, R143). -/
def faultPointsAt (b : Binding) (s : State) : State :=
  { s with points := s.points.map fun e =>
      if e.kind.writable && inForce s.substs e.binding == b then { e with delivery := .faulted, confirmed := none }
      else e }

/-- The Channel Map takes a terminal's result (R143, R144, R150). A frozen or detached item's result makes no point
FAULTED (R125, R148; log entry 11). -/
def channelResult (b : Binding) (res : ItemResult) (touchesPoints : Bool) (s : State) : State :=
  match res with
  | .applied => clearFailed b s
  | .fault =>
    let s1 := markFailed b s
    if touchesPoints then faultPointsAt b s1 else s1
  | .notFitted =>
    let s1 := markFailed b s
    voidSpare b (if touchesPoints then faultPointsAt b s1 else s1)

/-- The item still speaks for its point: live, and bound to the binding in force. A voiding earlier in the same reply
detaches it (R150). -/
def State.speaks (s : State) (i : Item) : Bool :=
  i.tie == .live &&
    match s.writable? i.point with
    | some e => s.bindingInForce e == i.binding
    | none => false

/-- One item result passed on, the Channel Map first and then Zone Control (R129, R150). -/
def takeItemResult (i : Item) (res : ItemResult) (s : State) : State :=
  let s1 := channelResult i.binding res (s.speaks i) s
  if res = .applied ∧ s.speaks i then itemApplied i.point (i.level.getD 0) s1 else s1

/-- The results paired with the items in item order; an item the reply has no result for takes the free value (log
entry 16). -/
def takeItemResults : List Item → List ItemResult → State → State
  | [], _, s => s
  | i :: items, res :: results, s => takeItemResults items results (takeItemResult i res s)
  | i :: items, [], s =>
    takeItemResults items [] (takeItemResult i (Config.missingResult s.draws) { s with draws := s.draws + 1 })

/-! ### Module absence and return (R11) -/

/-- The points whose binding in force lies on a module, ascending. -/
def State.pointsOn (s : State) (k : Fin 32) : List Nat :=
  s.pointNumbers.filter fun p =>
    match s.point? p with
    | some e => (s.bindingInForce e).module == k
    | none => false

/-- A point of a module that goes ABSENT becomes LOST, whatever its state; POINT_LOST when a writable one enters
LOST (R11). -/
def loseToAbsence (p : Nat) (s : State) : State :=
  match s.point? p with
  | none => s
  | some e =>
    let s1 := clearPending p true (s.modPoint p fun e => { e with confirmed := none, delivery := .lost })
    if e.kind.writable && e.delivery != .lost then raiseAll .pointLost s1 else s1

/-- Each LOST writable point of a returned module has a write handed, in ascending order (R11); one that the returning
reply has made FAULTED is LOST no more (log entry 52). -/
def requeueLost (p : Nat) (s : State) : State :=
  match s.writable? p with
  | none => s
  | some e => if e.delivery = .lost then handWrite p true s else s

/-- A snapshot sets the confirmed levels of the module's SENSE points and settles them (R6, R11). A terminal that
reports −1 gives no input, so the level is unknown (log entry 25). -/
def takeSenseLevels (k : Fin 32) (terminals : Vector Word 16) (s : State) : State :=
  { s with points := s.points.map fun e =>
      let b := inForce s.substs e.binding
      if e.kind == .sense && b.module == k then
        let v := terminals[b.terminal].toInt
        { e with confirmed := if v = -1 then none else some v, delivery := .settled }
      else e }

end Sys2Proof.Machine
end

