-- ==== Sys2Proof/Machine/Permits.lean ====
section
/-! DEFINITION. The judgements of the Condition Monitor, which change no state: switches seen made (R83), the Order
Screen (R88, R89), the machine interlock (R98) and the permit check (R97, Table 5-5). -/

namespace Sys2Proof.Machine

/-! ### Switches seen made (R83) -/

/-- The machine's module is PRESENT and has replied since the restart or the load that named it (R83, R104). -/
def State.switchesSeen (s : State) (m : Mover) : Bool :=
  s.cond.seen.get m && (s.module (s.moduleOfMover m)).present

/-- A switch of the machine is seen made: its kept value is made and its module is PRESENT (R83). -/
def State.seenMade (s : State) (m : Mover) (kept : Bool) : Bool := kept && s.switchesSeen m

/-- The word READ_CONDITIONS gives of a switch (R101). -/
def State.switchWord (s : State) (m : Mover) (kept : Bool) : Word :=
  if s.switchesSeen m then flagWord kept else -1

/-! ### The Order Screen (R88, R89) -/

/-- NO_AUTHORITY when the station's profile lacks what the order needs (R88, Table 5-3). -/
def needs (s : State) (n : Station) (has : Profile → Bool) : Option Denial := deny (!has (s.profile n)) .noAuthority

/-- A windlass target is a heave when it is 0 or lies below the position field (R84, R89, R97). -/
def State.heaveTarget (s : State) (target : Int) : Bool :=
  decide (target = 0 ∨ target < s.movers.windlass.position)

/-- Mode validity of a MOVE (`some target`) or HOME (`none`) of a mover (R89, Table 5-4). -/
def State.motionModeValid (s : State) (n : Station) (m : Mover) (target : Option Int) : Bool :=
  match s.cond.mode with
  | .berthed | .anchored => true
  | .setup => (s.profile n).maint
  | .underway =>
    match m, target with
    | .hatch, _ | .platform, _ => false
    | .windlass, none => true
    | .windlass, some t => s.heaveTarget t

/-- The screen of a MOVE or HOME: mode first, then ATTEND for an attended motion (R88, R89). -/
def screenMotion (s : State) (n : Station) (m : Mover) (target : Option Int) (attended : Bool) : Option Denial :=
  firstDenial
    [deny (!s.motionModeValid n m target) .modeInvalid,
     deny (attended && !(s.profile n).attend) .noAuthority]

/-- The scene a RECALL_SCENE goes on with, or none when it is invalid: in UNDERWAY a nav-sensitive zone's recall is
reassigned to its dark-running scene (R89). -/
def State.screenedScene (s : State) (zone scene : Nat) : Option Nat :=
  if s.cond.mode = .underway ∧ (s.zone zone).navSensitive then (s.zone zone).dark else some scene

/-! ### The machine interlock (R98) -/

/-- The partner's part: the partner rests, and one of its two switches is seen made. -/
def State.interlockMet (s : State) : Mover → Bool
  | .hatch =>
    !isActive s.movers.platform.state && (s.seenMade .platform s.cond.stowed || s.seenMade .platform s.cond.deckSwitch)
  | .platform =>
    !isActive s.movers.hatch.state && (s.seenMade .hatch s.cond.hatchClosed || s.seenMade .hatch s.cond.hatchOpen)
  | .windlass => true

/-! ### The permit check (R97, R99) -/

/-- What is about to be driven: a homing, or a drive to a target. -/
inductive Driven where
  | homing
  | toward (target : Int)
deriving DecidableEq, Repr

/-- Item 3 of Table 5-5 passes in UNDERWAY only for a heave or a homing of the windlass. -/
def State.modePermits (s : State) (m : Mover) (d : Driven) : Bool :=
  s.cond.mode != .underway ||
    match m, d with
    | .windlass, .homing => true
    | .windlass, .toward t => s.heaveTarget t
    | .hatch, _ | .platform, _ => false

/-- Item 5 of Table 5-5 (R99). -/
def State.linkPermits (s : State) (m : Mover) : Bool :=
  (s.module (s.moduleOfMover m)).present && (s.module (s.moduleOfMover m)).steady

/-- The permit check: the items of Table 5-5 in order, the first that fails giving the reason. -/
def permitCheck (s : State) (m : Mover) (attended : Bool) (d : Driven) : Option Reason :=
  if s.cond.latch then some .permitEstop
  else if m ≠ .hatch ∧ s.cond.swimmer ∧ !attended then some .permitSwimmer
  else if !s.modePermits m d then some .permitInterlock
  else if !s.interlockMet m then some .permitInterlock
  else if !s.linkPermits m then some .permitLink
  else none

/-- The permit check of an order. -/
def denyPermit (s : State) (m : Mover) (attended : Bool) (d : Driven) : Option Denial :=
  (permitCheck s m attended d).map fun why => (why, [])

/-! ### Checks of operands -/

/-- No operand words. -/
def noWords (o : OrderFrame) : Bool := o.words.isEmpty

/-- Exactly one operand word. -/
def oneWord (o : OrderFrame) : Option Word :=
  match o.words with
  | [w] => some w
  | _ => none

end Sys2Proof.Machine
end

