-- ==== Sys2Proof/Machine/Drives.lean ====
section
/-! DEFINITION. How a motion sequence starts: the entry into an active state (R23, R66, R102), the local controls'
targets (Table 3-3) and the start of a local drive from a live press (R45, R57). -/

namespace Sys2Proof.Machine

/-! ### Entering a state (R23, R136) -/

/-- A mover record in a new state. Motion polls run from the entry into a motion state to the exit from one; a step
from one motion state to another leaves them running (R136; log entry 13). -/
def MoverRecord.enter (st : MoverState) (r : MoverRecord) : MoverRecord :=
  { r with state := st, poll := if isMotion st then (if isMotion r.state then r.poll else .due) else .idle }

/-- The timers and counts of a drive stop. -/
def MoverRecord.stopTimers (r : MoverRecord) : MoverRecord :=
  { r with travel := none, stall := none, settle := none, pause := none, homingTravel := none }

/-- A live press whose drive has ended is spent (R58). -/
def MoverRecord.spendDriving (r : MoverRecord) : MoverRecord :=
  { r with live := r.live.filter fun l => !l.driving }

/-- The claim held by a station with ending NONE takes the lease of the motion that starts (R66). -/
def startLease (m : Mover) (s : State) : State :=
  match (s.claim m).holder, (s.claim m).ending with
  | .station _, .notEnding =>
    let kind := if (s.mover m).attended then LeaseKind.attended else .motion
    s.modClaim m fun c => { c with lease := some kind, deadline := some (s.now + leaseLength kind) }
  | _, _ => s

/-- The mover enters an active state. From a rest state the Claim Arbiter and the Condition Monitor are told (R23). -/
def enterActive (m : Mover) (st : MoverState) (s : State) : State :=
  let s1 := s.modMover m fun r => r.enter st
  if isActive (s.mover m).state then s1 else evaluateForces (startLease m s1)

/-! ### The windlass declaration (R56) -/

/-- The declaration ends and its order, if its station is still attached, is answered. -/
def endDeclaration (res : Result) (why : Reason) (data : List Word) (s : State) : State :=
  match s.declaration with
  | none => s
  | some d =>
    let s1 := { s with declaration := none }
    match d.order with
    | some r => answer r res why data s1
    | none => s1

/-- A motion taken for the windlass ends a waiting declaration with SUPERSEDED (R56). -/
def supersedeDeclaration (m : Mover) (s : State) : State :=
  if m = .windlass then endDeclaration .ended .superseded [] s else s

/-! ### Starting a sequence (R27, R29, R45) -/

def startSequence (m : Mover) (st : MoverState) (target : Int) (attended noRetry : Bool) (body : FrameBody)
    (s : State) : State :=
  let s1 := (supersedeDeclaration m s).modMover m fun r =>
    { r with target := some target, attempts := 0, recovery := false, haltCause := none, attended := attended,
             noRetry := noRetry }
  enterActive m st (handCommand m body s1)

def startDrive (m : Mover) (target : Int) (attended noRetry : Bool) (s : State) : State :=
  startSequence m .moving target attended noRetry (.drive m target (tolerance m)) s

def startHoming (m : Mover) (attended noRetry : Bool) (s : State) : State :=
  startSequence m .homing 0 attended noRetry (.home m none) (s.modMover m fun r => { r with valid := false })

/-! ### Local drives (R45, R57, Table 3-3) -/

/-- The target a control chooses (Table 3-3, R59 to R61). -/
def State.localTarget (s : State) : Control → Int
  | .hatchButton => if s.cond.hatchClosed then 1000 else 0
  | .platformUp =>
    if s.movers.platform.valid ∧ s.movers.platform.position > s.params.deckLevel + tolerance .platform then
      s.params.deckLevel
    else 0
  | .platformDown =>
    if s.movers.platform.valid ∧ s.movers.platform.position < s.params.deckLevel - tolerance .platform then
      s.params.deckLevel
    else 1000
  | .windlassHeave => 0
  | .windlassPayOut => s.params.chainLength

def spendLive (m : Mover) (s : State) : State := s.modMover m fun r => { r with live := none }

/-- A live press that is not driving starts a drive when LOCAL holds the claim and the mover rests in UNHOMED, IDLE or
HALTED; it is spent where R57 says so, and waits while the mover is active. -/
def tryLive (m : Mover) (s : State) : State :=
  let r := s.mover m
  match r.live with
  | none => s
  | some l =>
    if l.driving ∨ (s.claim m).holder ≠ .deck ∨ isActive r.state then s
    else if r.state = .faulted then raiseAll .localRefused (spendLive m s)
    else
      let target := s.localTarget l.control
      match permitCheck s m true (.toward target) with
      | some _ => raiseAll .localRefused (spendLive m s)
      | none =>
        if r.valid ∧ withinTolerance m target r.position then spendLive m s
        else startDrive m target true true (s.modMover m fun r => { r with live := some { l with driving := true } })

/-- The Motion Controller is told of a press: it becomes the live press. While the foot switches are blocked no press
of one starts a drive (R61). -/
def tellPress (m : Mover) (c : Control) (s : State) : State :=
  if m = .windlass ∧ s.footBlocked then s
  else tryLive m (s.modMover m fun r => { r with live := some ⟨c, false⟩ })

/-- LOCAL has taken the claim with the mover's pressed control: the Motion Controller is told of it. With both foot
switches pressed it is told of neither, and they are blocked (R77; log entry 19). -/
def tellHeld (m : Mover) (s : State) : State :=
  match s.pressed m with
  | [] => s
  | [c] => tellPress m c s
  | _ => { s with footBlocked := true }

end Sys2Proof.Machine
end

