-- ==== Sys2Proof/Machine/Claims.lean ====
section
/-! DEFINITION. The Claim Arbiter's shared operations: renewal (R67), the pass of a claim (R72), and what a mover's
return to rest does to its claim (R66, R74, R78). -/

namespace Sys2Proof.Machine

/-! ### Leases (R66, R67) -/

/-- The lease starts at the given kind. -/
def setLease (m : Mover) (kind : LeaseKind) (s : State) : State :=
  s.modClaim m fun c => { c with lease := some kind, deadline := some (s.now + leaseLength kind) }

/-- A lease is renewed: its deadline starts afresh at the duration of its present kind (R67). -/
def renewLease (m : Mover) (s : State) : State :=
  match (s.claim m).lease with
  | some kind => setLease m kind s
  | none => s

/-- An order of the holder that names the mover renews an ATTENDED lease (R67). -/
def renewAttended (n : Station) (m : Mover) (s : State) : State :=
  if s.holds n m ∧ (s.claim m).lease = some .attended then renewLease m s else s

/-! ### Passing a claim (R72) -/

/-- LOCAL takes a free claim: no lease runs (R66, R76). -/
def localHolder (m : Mover) (s : State) : State :=
  s.modClaim m fun c => { c with holder := .deck, lease := none, deadline := none, ending := .notEnding }

/-- The claim becomes free; if a control of the mover is still pressed, LOCAL takes it at once and the override timer
stops (R72). -/
def freeClaim (m : Mover) (s : State) : State :=
  let s1 := s.setClaim m .free
  if (s.pressed m).isEmpty then s1 else tellHeld m (localHolder m s1)

/-- A waiter becomes holder: its CLAIM is answered DONE and CLAIM_GRANTED raised in it. A running override timer goes
on against it, and LOCAL_PRESS is raised in it (R72). -/
def grantClaim (m : Mover) (r : OrderRef) (rest : List OrderRef) (s : State) : State :=
  let timer := (s.claim m).override
  let s1 := s.setClaim m
    { ClaimRecord.free with
      holder := .station r.station
      lease := some .rest
      deadline := some (s.now + leaseLength .rest)
      override := timer
      waiters := rest }
  let s2 := raise .claimGranted r.station (done r [] s1)
  if timer.isSome then raise .localPress r.station s2 else s2

/-- A pass takes the waiters oldest first; one whose profile no longer includes the mover is refused. -/
def passTo (m : Mover) : List OrderRef → State → State
  | [], s => freeClaim m s
  | r :: rest, s =>
    if (s.profile r.station).movers.get m then grantClaim m r rest s
    else passTo m rest (answer r .refused .noAuthority [] s)

def passClaim (m : Mover) (s : State) : State := passTo m (s.claim m).waiters s

/-! ### A mover's return to rest (R66, R74, R78) -/

/-- The holder's outstanding RELEASE is answered DONE (R73). -/
def answerRelease (m : Mover) (s : State) : State :=
  match (s.claim m).releaseOrder with
  | some r => done r [] (s.modClaim m fun c => { c with releaseOrder := none })
  | none => s

/-- The local hold starts if no control of the mover is pressed (R78). -/
def startLocalHold (m : Mover) (s : State) : State :=
  if (s.pressed m).isEmpty then s.modClaim m fun c => { c with localHold := some (s.now + localHoldTime) } else s

/-- At a return to rest an ending is completed (R74); a pending pass is made (R78); a station's claim with ending NONE
takes the REST lease (R66). -/
def claimAtRest (m : Mover) (s : State) : State :=
  let c := s.claim m
  match c.ending with
  | .releasing => passClaim m (answerRelease m s)
  | .expiring | .detached => passClaim m s
  | .revoked => startLocalHold m (s.modClaim m fun c => { c with ending := .notEnding })
  | .notEnding =>
    match c.holder with
    | .station _ => setLease m .rest s
    | .deck => if c.passPending then passClaim m s else s
    | .nobody => s

/-- An ending is set: the lease deadline is not enforced from here (R69). -/
def setEnding (m : Mover) (e : Ending) (s : State) : State :=
  s.modClaim m fun c => { c with ending := e, deadline := none }

end Sys2Proof.Machine
end

