-- ==== Sys2Proof/Machine/Motion.lean ====
section
/-! DEFINITION. The motion sequence's shared operations: rest (R38, R41, R42), faults and retries (R33 to R36), halt
requests (R37), settling (R32, R50, R52), homing (R30), the recovery pause (R35), and what the local controls do to a
drive (R57, R58, R61, R76). -/

namespace Sys2Proof.Machine

/-! ### Coming to rest -/

/-- The four outcome words of R41. -/
def outcomeWords (r : MoverRecord) : List Word :=
  [wordOf r.position, flagWord r.valid, wordOfNat r.attempts, wordOfNat r.lastFault.code]

/-- The deferred reply is answered and becomes absent (R41). -/
def answerDeferred (m : Mover) (res : Result) (why : Reason) (s : State) : State :=
  match (s.mover m).deferred with
  | none => s
  | some r =>
    (answer r res why (outcomeWords (s.mover m)) s).modMover m fun r => { r with deferred := none }

/-- A rest period of the windlass begins (R54). -/
def beginRestPeriod (s : State) : State :=
  { s with creepReference := s.movers.windlass.position, creepFlag := false }

/-- The holder station's fault record at an entry to FAULTED (R42). -/
def writeMoverFault (m : Mover) (s : State) : State :=
  match s.holderStation m with
  | some n =>
    writeFault n (faultAbout .mover (BitVec.ofNat 8 (s.mover m).lastFault.code) ⟨.mover, moverNumber m⟩ s) s
  | none => s

/-- R42: the event of a sequence's end, in the holder station. -/
def tellOutcome (m : Mover) (st : MoverState) (s : State) : State :=
  if st = .faulted then writeMoverFault m (raiseHolder .motionFault m s) else raiseHolder .motionDone m s

/-- What a return to rest tells the other blocks (R23, R54, R74), and the live press that waited for it (R57). That the
Condition Monitor is told before the Claim Arbiter is the model's choice: R23 gives no order (log entry 50). -/
def restNotice (m : Mover) (s : State) : State :=
  let s1 := if m = .windlass then beginRestPeriod s else s
  tryLive m (claimAtRest m (evaluateForces s1))

/-- An active mover enters a rest state: the sequence's fields are cleared, the deferred reply is answered, the event
is raised, and the other blocks are told, in this order (R36, R38, R41, R42, R74). -/
def comeToRest (m : Mover) (st : MoverState) (res : Result) (why : Reason) (s : State) : State :=
  let s1 := s.modMover m fun r =>
    { (r.enter st).stopTimers.spendDriving with target := none, recovery := false, linkLost := false }
  let s2 := tellOutcome m st (answerDeferred m res why s1)
  restNotice m (s2.modMover m fun r => { r with haltCause := none })

/-! ### Faults (R33, R34, R36, R39) -/

/-- R36. `absent` is the absence of the mover's module (R39(b)): position valid becomes no and the Halt Slot is left
empty. -/
def enterFaulted (m : Mover) (code : FaultCode) (absent : Bool) (s : State) : State :=
  let inMotion := isMotion (s.mover m).state
  let s1 := s.modMover m fun r => { r with lastFault := code, valid := r.valid && !absent }
  let s2 :=
    if absent then { s1 with haltSlots := s1.haltSlots.set none m }
    else if inMotion then placeHalt m s1 else s1
  comeToRest m .faulted .ended .motionFault (withdrawCommands m s2)

/-- Entry to RECOVERING (R34). -/
def enterRecovering (m : Mover) (s : State) : State :=
  enterActive m .recovering <|
    (withdrawCommands m (placeHalt m s)).modMover m fun r =>
      { r.stopTimers with pause := some ⟨s.now + recoveryTime, false, false⟩ }

/-- The retry decision allows another try at this attempt count (R34). -/
def retries (m : Mover) (attempts : Nat) : Bool :=
  match m with
  | .hatch | .platform => decide (attempts ≤ 4)
  | .windlass => decide (attempts ≤ 3)

/-- A motion fault in MOVING (R33) and the retry decision (R34). -/
def motionFault (m : Mover) (code : FaultCode) (s : State) : State :=
  let s1 := s.modMover m fun r => { r with lastFault := code, attempts := r.attempts + 1 }
  if !(s1.mover m).noRetry && retries m (s1.mover m).attempts then enterRecovering m s1
  else enterFaulted m code false s1

/-! ### Halts (R37, R38) -/

/-- A halting mover comes to rest (R38); `carries` says that the confirming report carries a position. With the link
lost it faults instead, with position valid as R38 would have set it (R39(a)). -/
def haltRest (m : Mover) (carries : Bool) (s : State) : State :=
  let r := s.mover m
  let s1 := s.modMover m fun r => { r with valid := r.valid && carries }
  if r.linkLost then enterFaulted m .linkLost false s1
  else comeToRest m (if r.valid then .halted else .unhomed) .ended (r.haltCause.getD .noReason) s1

/-- A halt request (R37). It spends a press whose drive it halts (R58). -/
def haltRequest (m : Mover) (why : Reason) (s : State) : State :=
  let r := s.mover m
  let cause := s.modMover m fun r => { r with haltCause := some why }
  if isMotion r.state then
    enterActive m .halting <|
      (withdrawCommands m (placeHalt m cause)).modMover m fun r => r.stopTimers.spendDriving
  else if r.state = .recovering then
    if (r.pause.map fun p => p.confirmed).getD false then haltRest m true cause
    else enterActive m .halting (cause.modMover m fun r => r.stopTimers)
  else s

/-- A lost command frame of an active mover (R39(a)). -/
def commandLost (m : Mover) (s : State) : State :=
  if isActive (s.mover m).state then
    let s1 := s.modMover m fun r => { r with linkLost := true }
    if isMotion (s.mover m).state then haltRequest m .permitLink s1 else s1
  else s

/-! ### Settling (R32, R50, R52) -/

def enterSettling (m : Mover) (s : State) : State :=
  enterActive m .settling <|
    s.modMover m fun r =>
      { r.stopTimers with settle := some (s.now + settleTime m (r.target.getD 0)) }

/-- The settle condition, tested against the latest snapshot (R50, R52). -/
def State.settles (s : State) (m : Mover) (target : Int) : Bool :=
  match m with
  | .hatch =>
    if target = 0 then s.cond.latchMade
    else if withinTolerance .hatch target 1000 then s.cond.hatchOpen
    else !s.cond.hatchClosed
  | .platform =>
    if target = 0 then s.cond.stowed
    else if withinTolerance .platform target s.params.deckLevel then !s.cond.stowed
    else if target > s.params.deckLevel then !s.cond.stowed && s.cond.deckSwitch
    else !s.cond.stowed && !s.cond.deckSwitch
  | .windlass => s.brakeApplied && (target != 0 || s.cond.anchorHome)

/-! ### Homing (R30) and the recovery pause (R35) -/

/-- A new drive within the sequence: a DRIVE frame is handed and the mover is in MOVING. -/
def redrive (m : Mover) (target : Int) (s : State) : State :=
  enterActive m .moving <|
    handCommand m (.drive m target (tolerance m)) (s.modMover m fun r => r.stopTimers)

/-- The home switch was seen made during HOMING (R30). -/
def homingSucceeds (m : Mover) (s : State) : State :=
  let r := s.mover m
  let s1 := s.modMover m fun r => { r with position := 0, valid := true, recovery := false }
  if !r.recovery then enterSettling m s1
  else
    let target := r.target.getD 0
    match permitCheck s1 m r.attended (.toward target) with
    | none => redrive m target s1
    | some why => comeToRest m .halted .ended why s1

/-- A homing failure; during a recovery homing the attempt count becomes 5 (R30). -/
def homingFails (m : Mover) (code : FaultCode) (s : State) : State :=
  enterFaulted m code false <|
    s.modMover m fun r => { r with attempts := if r.recovery then 5 else r.attempts }

/-- The end of the recovery pause (R35), with the link-lost case of R39(a). -/
def endPause (m : Mover) (s : State) : State :=
  let r := s.mover m
  let target := r.target.getD 0
  if r.linkLost then enterFaulted m .linkLost false s
  else
    match permitCheck s m r.attended (.toward target) with
    | some why => comeToRest m .halted .ended why s
    | none =>
      if r.attempts = 4 then
        enterActive m .homing <|
          handCommand m (.home m none) <|
            s.modMover m fun r => { r.stopTimers with recovery := true, valid := false }
      else if withinTolerance m r.position target then enterSettling m s
      else redrive m target s

/-- The Halt Slot has been confirmed by a reply (R35, R36, R38). -/
def haltConfirmed (m : Mover) (carries : Bool) (s : State) : State :=
  let r := s.mover m
  match r.state with
  | .halting => haltRest m carries s
  | .recovering =>
    let s1 := s.modMover m fun r => { r with pause := r.pause.map fun p => { p with confirmed := true } }
    if (r.pause.map fun p => p.elapsed).getD false then endPause m s1 else s1
  | _ => s

/-! ### The interlock re-test (R100) -/

/-- HATCH and PLATFORM are each other's partners (R98). -/
def partnerOf : Mover → Option Mover
  | .hatch => some .platform
  | .platform => some .hatch
  | .windlass => none

/-- The partner of a machine is halted when its interlock is found not met: on a snapshot from the machine's module,
and on a change of that module's presence (R100). -/
def retestPartner (m : Mover) (s : State) : State :=
  match partnerOf m with
  | some p =>
    if isMotionOrRecovering (s.mover p).state ∧ !s.interlockMet p then haltRequest p .permitInterlock s else s
  | none => s

/-! ### Local controls (R57, R58, R61, R76) -/

/-- The live press is absent from here, and its drive, if one runs, is halted with no reason (R58). -/
def dropLive (m : Mover) (s : State) : State :=
  match (s.mover m).live with
  | none => s
  | some l => if l.driving then haltRequest m .noReason (spendLive m s) else spendLive m s

/-- A press while LOCAL holds. A second foot switch pressed while the first is live is taken as a release of the
first, is itself spent, and blocks both (R61). -/
def motionPress (m : Mover) (c : Control) (s : State) : State :=
  if m = .windlass ∧ (s.mover m).live.isSome then { dropLive m s with footBlocked := true }
  else tellPress m c s

/-- A press reaches the Claim Arbiter (R76, R78). -/
def arbiterPress (m : Mover) (c : Control) (s : State) : State :=
  match (s.claim m).holder with
  | .nobody => tellPress m c (localHolder m s)
  | .deck => motionPress m c (s.modClaim m fun c => { c with localHold := none, passPending := false })
  | .station n =>
    raise .localPress n <|
      s.modClaim m fun c => { c with override := some (c.override.getD (s.now + overrideTime)) }

/-- A release reaches the Claim Arbiter (R76); the control is no longer pressed. -/
def arbiterRelease (m : Mover) (c : Control) (s : State) : State :=
  match (s.claim m).holder with
  | .nobody => s
  | .deck =>
    let s1 := if ((s.mover m).live.map fun l => l.control) = some c then dropLive m s else s
    if (s1.claim m).ending = .notEnding then startLocalHold m s1 else s1
  | .station _ =>
    if (s.pressed m).isEmpty then s.modClaim m fun c => { c with override := none } else s

end Sys2Proof.Machine
end

