-- ==== Sys2Proof/Machine/Reports.lean ====
section
/-! DEFINITION. What a module's reply does: the snapshot and switches (R6, R49, R83), the drive report (R25, R30 to
R33), the windlass declaration and creep (R54, R56), and the confirmation of a Halt Slot (R132). -/

namespace Sys2Proof.Machine

/-! ### Snapshot and switches -/

/-- The switches of one machine taken from a reply (Table 3-2, Table 7-6). -/
def takeSwitches (m : Mover) (w : Word) (s : State) : State :=
  let seen := s.cond.seen.set true m
  match m with
  | .hatch =>
    { s with cond := { s.cond with
        hatchClosed := w.getLsbD 0, hatchOpen := w.getLsbD 1, latchMade := w.getLsbD 2, seen := seen } }
  | .platform =>
    { s with cond := { s.cond with stowed := w.getLsbD 3, deckSwitch := w.getLsbD 4, seen := seen } }
  | .windlass =>
    { s with cond := { s.cond with anchorHome := w.getLsbD 5, seen := seen }, brakeApplied := w.getLsbD 6 }

/-- A reply's snapshot: the Module Record keeps it, Zone Control takes the SENSE levels, and the Condition Monitor
takes the switches, evaluates the forces (R102) and re-tests the partner's interlock (R100), in an order that is the
model's choice (log entry 56). -/
def takeInputs (k : Fin 32) (r : FieldReply) (s : State) : State :=
  let s1 := takeSenseLevels k r.terminals (s.modModule k fun rec => { rec with snapshot := some r.terminals })
  match s1.moverOfModule k with
  | none => s1
  | some m => retestPartner m (evaluateForces (takeSwitches m r.switches s1))

/-! ### The drive report (R24, R25) -/

/-- The distance between two positions. -/
def distance (a b : Int) : Int := if a ≤ b then b - a else a - b

/-- A position reported within a homing (R30): its distance from the last one is added; the first adds none. -/
def Travelled.next (p : Int) (t : Travelled) : Travelled :=
  ⟨t.total + ((t.last.map fun q => distance q p).getD 0), some p⟩

/-- A reported position (R24). A homing counts the movement at a report that concerns its HOME frame (R30; log entry
35), and a change starts the stall window again (R30, R31). -/
def takePosition (m : Mover) (concerned : Bool) (p : Int) (s : State) : State :=
  s.modMover m fun r =>
    { r with
      position := p
      homingTravel := if concerned then r.homingTravel.map (Travelled.next p) else r.homingTravel
      stall := if p = r.position then r.stall else r.stall.map fun _ => s.now + stallWindow m }

/-- Each count reported while the windlass rests is compared with the creep reference (R54). -/
def takeCreep (p : Int) (s : State) : State :=
  if !isActive s.movers.windlass.state ∧ !s.creepFlag ∧ creepLimit ≤ distance s.creepReference p then
    raiseAll .chainCreep { s with creepFlag := true }
  else s

/-- The mover's current command frame has been sent (R25, R28): none waits unsent, or the one that waits is a
retarget's, and the DRIVE sent before it stays the current command until it is sent. In MOVING the stall window that runs
tells of that DRIVE, and SETTLING follows only on a command that has been sent (log entry 12). -/
def State.commandSent (s : State) (m : Mover) : Bool :=
  !s.commandUnsent m || (s.mover m).state == .settling || ((s.mover m).state == .moving && (s.mover m).stall.isSome)

/-- The report concerns the mover's current command (R25). -/
def State.concerns (s : State) (m : Mover) (command : Word) : Bool :=
  (s.mover m).command == some command && s.commandSent m

/-- The first report that concerns the preset frame completes the declaration (R56). -/
def completesDeclaration (s : State) (k : Fin 32) (command : Word) : Bool :=
  match s.declaration with
  | some d => d.module == k && s.concerns .windlass command
  | none => false

def completeDeclaration (s : State) : State :=
  let s1 := beginRestPeriod (s.modMover .windlass fun r => r.enter .idle |> fun r => { r with valid := true })
  endDeclaration .done .noReason [wordOf s1.movers.windlass.position] s1

/-- A report of the module a preset went to, which a load has since taken from the windlass, still completes the
declaration (R56; log entry 22). -/
def takeFormerPreset (k : Fin 32) (d : DriveReport) (s : State) : State :=
  if s.moduleOfMover .windlass ≠ k ∧ completesDeclaration s k d.command then
    completeDeclaration <|
      match d.position with
      | some p => takePosition .windlass false p.toInt s
      | none => s
  else s

/-- The machine's home switch (Table 3-1). -/
def State.homeSwitch (s : State) : Mover → Bool
  | .hatch => s.cond.hatchClosed
  | .platform => s.cond.stowed
  | .windlass => s.cond.anchorHome

/-- The fault code of a drive fault reported outside HOMING (R32, R33). -/
def driveFault : DriveStatus → Option FaultCode
  | .stalled => some .stall
  | .overload => some .overload
  | .limitMismatch => some .limitMismatch
  | .running | .stopped => none

/-- The fault code of a status reported during HOMING with the home switch not made (R30). -/
def homingFault : DriveStatus → Option FaultCode
  | .stalled | .stopped => some .homeNotFound
  | .overload => some .overload
  | .limitMismatch => some .limitMismatch
  | .running => none

/-- A drive status acted on for the first time within the command, by the mover's state (R30 to R33, R45). STOPPED ends
a local drive with position valid no in UNHOMED, from wherever it began: R45, R60 and R61 say so of all such drives but
those of the hatch begun from HALTED, where it is the model's choice (log entry 49). -/
def actOnStatus (m : Mover) (st : DriveStatus) (s : State) : State :=
  let r := s.mover m
  match r.state with
  | .homing =>
    match homingFault st with
    | some code => homingFails m code s
    | none => s
  | .moving =>
    match st with
    | .stopped =>
      if !r.valid then comeToRest m .unhomed .done .noReason s
      else if withinTolerance m r.position (r.target.getD 0) then enterSettling m s
      else motionFault m .stall s
    | _ =>
      match driveFault st with
      | some code => motionFault m code s
      | none => s
  | .settling =>
    match driveFault st with
    | some code => enterFaulted m code false s
    | none => s
  | _ => s

/-- The homing's accumulated movement exceeds the machine's allowance (R30). -/
def State.overTravelled (s : State) (m : Mover) : Bool :=
  (s.mover m).state == .homing &&
    match (s.mover m).homingTravel with
    | some d => decide (homingAllowance s.params.chainLength m < d.total)
    | none => false

/-- The progress of a motion at a report that concerns its command (R25, R30 to R33). Of several events one report of a
homing shows, the home switch comes first, then the allowance, then the status (log entry 44). A status is kept as
reported only where it is taken up: the one carried with the home switch that ends HOMING is not, nor one in RECOVERING,
so a later report of it in SETTLING counts as its first. That is the model's choice (log entry 53). -/
def takeProgress (m : Mover) (d : DriveReport) (s : State) : State :=
  if !s.concerns m d.command then s
  else if (s.mover m).state = .homing ∧ s.homeSwitch m then homingSucceeds m s
  else if s.overTravelled m then homingFails m .homeNotFound s
  else if isMotion (s.mover m).state ∧ d.status ∉ (s.mover m).seen then
    actOnStatus m d.status (s.modMover m fun r => { r with seen := r.seen ++ [d.status] })
  else s

/-- A drive report of the mover's module: the position first, then the declaration, the creep and the progress. -/
def takeReport (k : Fin 32) (m : Mover) (d : DriveReport) (s : State) : State :=
  let s1 := match d.position with
    | some p => takePosition m (s.concerns m d.command) p.toInt s
    | none => s
  if m = .windlass ∧ completesDeclaration s1 k d.command then completeDeclaration s1
  else
    let s2 := match m, d.position with
      | .windlass, some p => takeCreep p.toInt s1
      | _, _ => s1
    takeProgress m d s2

/-! ### The Halt Slot (R132) -/

/-- The slot holds a halt frame of this wire sequence number. -/
def State.slotHolds (s : State) (m : Mover) (seq : Word) : Bool :=
  match s.haltSlots.get m with
  | some h => h.seq == some seq
  | none => false

/-- The slot is confirmed and becomes empty (R132). -/
def confirmSlot (m : Mover) (carries : Bool) (s : State) : State :=
  haltConfirmed m carries { s with haltSlots := s.haltSlots.set none m }

/-- The drive report of a reply, and the confirmation of the Halt Slot: by a timely answer to the halt frame, or by a
report that names it (R129, R130, R132). The Module Record keeps the command the report names (R119). -/
def takeDrive (k : Fin 32) (answered : Option Word) (r : FieldReply) (s : State) : State :=
  let s1 := match r.drive with
    | some d => takeFormerPreset k d (s.modModule k fun rec => { rec with heldCommand := some d.command })
    | none => s
  match s1.moverOfModule k with
  | none => s1
  | some m =>
    let s2 := match r.drive with
      | some d => takeReport k m d s1
      | none => s1
    let carries := (r.drive.bind fun d => d.position).isSome
    let byAnswer := (answered.map fun seq => s.slotHolds m seq).getD false
    let byName := (r.drive.map fun d => s.slotHolds m d.command).getD false
    if byAnswer || byName then confirmSlot m carries s2 else s2

/-- What every reply that is taken passes on: the snapshot and switches, then the drive report (log entry 29). -/
def takeReply (k : Fin 32) (answered : Option Word) (r : FieldReply) (s : State) : State :=
  takeDrive k answered r (takeInputs k r s)

/-- A late reply (R130); one from an ABSENT module is discarded (R137). -/
def takeLate (k : Fin 32) (r : FieldReply) (s : State) : State :=
  if (s.module k).present then takeReply k none r s else s

end Sys2Proof.Machine
end

