-- ==== Sys2Proof/Machine/Delivery.lean ====
section
/-! DEFINITION. The Field Link Controller's events: the choice and the send of a frame (R126, R128), timely replies and
the return of a module (R129, R137), expiries, losses and absence (R131, R133, R134), and polls (R135, R136, R51). -/

namespace Sys2Proof.Machine

/-! ### Sending (R119, R126, R128) -/

/-- The wire sequence number a first send gives, and the next one. For a DRIVE, HOME or halt frame a value equal to
the module's held command number is passed over (R119). -/
def takeSeq (k : Fin 32) (commanding : Bool) (s : State) : Word × State :=
  let v := if commanding && (s.module k).heldCommand == some s.wireSeq then s.wireSeq + 1 else s.wireSeq
  (v, { s with wireSeq := v + 1 })

def State.replyDeadline (s : State) (k : Fin 32) : Nat := s.now + replyTime (s.module k).steady

/-- The frame becomes the mover's current command at its first send (R128). -/
def becomeCommand (m : Mover) (seq : Word) (s : State) : State :=
  s.modMover m fun r => { r with command := some seq, seen := [] }

/-- A halt frame leaves its slot. Its first send retires the mover's command frames (R124). -/
def sendHalt (m : Mover) (h : HaltFrame) (s : State) : State :=
  let k := s.moduleOfMover m
  let (seq, s1) := match h.seq with
    | some q => (q, s)
    | none =>
      let (q, s1) := takeSeq k true s
      (q, becomeCommand m q s1)
  let s2 := retireCommands m s1
  { s2 with
    haltSlots := s2.haltSlots.set (some ⟨some seq, h.attempt + 1, .inFlight⟩) m
    sideFlights := s2.sideFlights ++ [⟨k, seq, s2.replyDeadline k, .halt m⟩]
    linkOut := fieldBytes k seq h.attempt .halt [] }

/-- A due motion poll is sent; the next falls due 25 ms later (R136). -/
def sendMotionPoll (m : Mover) (s : State) : State :=
  let k := s.moduleOfMover m
  let (seq, s1) := takeSeq k false s
  let s2 := s1.modMover m fun r => { r with poll := .waiting (s.now + motionPollTime) }
  { s2 with
    sideFlights := s2.sideFlights ++ [⟨k, seq, s2.replyDeadline k, .motionPoll m⟩]
    linkOut := fieldBytes k seq 0 .poll [] }

/-- A due motion poll waits while another motion poll of its module is in flight (R136). -/
def State.motionPollReady (s : State) (m : Mover) : Bool :=
  (s.mover m).poll == .due &&
    !(s.sideFlights.any fun x =>
        x.module == s.moduleOfMover m && match x.kind with | .motionPoll _ => true | .halt _ => false)

/-- The mover whose DRIVE or HOME frame a record is. -/
def QueueFrame.commanded (f : QueueFrame) : Option Mover :=
  match f.body with
  | .drive m _ _ => some m
  | .home m _ => some m
  | .levels _ | .terminalWrite _ _ _ | .poll _ _ => none

/-- A retired frame of the mover is in flight (R124, R126). -/
def State.retiredInFlight (s : State) (m : Mover) : Bool :=
  s.queue.any fun f => f.commands m && f.retired && f.stage.isInFlight

/-- The newer command frame of a mover with a retired frame in flight is not sent, nor a younger frame of its module
(R126). -/
def State.heldBack (s : State) (f : QueueFrame) : Bool :=
  match f.commanded with
  | some m => s.retiredInFlight m
  | none => false

/-- The oldest closed queue frame, unsent or awaiting resend, whose module has room (R126), with its index; `barred`
are the modules treated as lacking room from here on. -/
def State.pick (s : State) : Nat → List (Fin 32) → List QueueFrame → Option (Nat × QueueFrame)
  | _, _, [] => none
  | i, barred, f :: rest =>
    if f.isOpen || !f.stage.awaitsSend then s.pick (i + 1) barred rest
    else if s.heldBack f then s.pick (i + 1) (f.module :: barred) rest
    else if !barred.contains f.module && s.hasRoom f.module then some (i, f)
    else s.pick (i + 1) barred rest

/-- The level an item carries at a send: the effective level of its point, unless the item is frozen or detached
(R125, R148). -/
def State.itemAtSend (s : State) (i : Item) : Item :=
  if i.tie = .live then
    match s.point? i.point with
    | some e => { i with level := some e.effective }
    | none => i
  else i

/-- QUEUED becomes SENT at the first send of an item of the point (R7). -/
def markSent (s : State) (i : Item) : State :=
  if i.tie = .live then
    s.modPoint i.point fun e => if e.delivery = .queued then { e with delivery := .sent } else e
  else s

/-- The first send of a DRIVE frame in MOVING, or of a HOME frame in HOMING, starts the timers (R30, R31); a stall
window that runs goes on (R28). -/
def startTimers (m : Mover) (body : FrameBody) (s : State) : State :=
  match body, (s.mover m).state with
  | .drive _ _ _, .moving =>
    s.modMover m fun r =>
      { r with
        travel := (travelTimeLimit m).map fun t => s.now + t
        stall := some (r.stall.getD (s.now + stallWindow m)) }
  | .home _ none, .homing =>
    s.modMover m fun r => { r with stall := some (s.now + stallWindow m), homingTravel := some ⟨0, none⟩ }
  | _, _ => s

/-- A queue frame is sent (R128). A return poll that a return finds in the queue is sent as any POLL is (log entry
46). -/
def sendQueue (i : Nat) (f : QueueFrame) (s : State) : State :=
  let first := f.seq.isNone
  let (seq, s1) := match f.seq with
    | some q => (q, s)
    | none => takeSeq f.module f.commanded.isSome s
  let attempt := if first then 0 else f.attempt + 1
  let items := f.items.map s1.itemAtSend
  let g := { f.withItems items with
    stage := .inFlight (s1.replyDeadline f.module), attempt := attempt, seq := some seq }
  let s2 := { s1 with
    queue := s1.queue.set i g, linkOut := fieldBytes f.module seq attempt f.body.kind g.body.bytes }
  let s3 := if first then items.foldl markSent s2 else s2
  match f.body, f.commanded with
  | .poll _ true, _ =>
    s3.modModule f.module fun k => if k.present then k else { k with returnDue := some (s.now + returnPollTime) }
  | _, some m => if first then startTimers m f.body (becomeCommand m seq s3) else s3
  | _, none => s3

/-- What is ready and comes first by R126. -/
inductive Ready where
  | halt (m : Mover) (h : HaltFrame)
  | motionPoll (m : Mover)
  | frame (index : Nat) (f : QueueFrame)
deriving DecidableEq, Repr

/-- A halt frame waiting to be sent. -/
def State.waitingHalt (s : State) (m : Mover) : Option Ready :=
  match s.haltSlots.get m with
  | some h => if h.stage = .waitingToSend then some (.halt m h) else none
  | none => none

/-- The arbiter of the link (R126). -/
def State.ready (s : State) : Option Ready :=
  match allMovers.findSome? s.waitingHalt with
  | some x => some x
  | none =>
    match allMovers.find? s.motionPollReady with
    | some m => some (.motionPoll m)
    | none =>
      if s.unconfirmed < unconfirmedLimit then (s.pick 0 [] s.queue).map fun x => .frame x.1 x.2 else none

/-- The send of the frame the arbiter chooses; nothing is sent when nothing is ready. -/
def sendNext (s : State) : State :=
  match s.ready with
  | some (.halt m h) => sendHalt m h s
  | some (.motionPoll m) => sendMotionPoll m s
  | some (.frame i f) => sendQueue i f s
  | none => s

/-! ### Scores (R133) -/

/-- A changed score of a PRESENT module halts its mover, in a motion state, when it is below 4 (R133, R39(c)). -/
def weakLink (k : Fin 32) (s : State) : State :=
  match s.moverOfModule k with
  | some m =>
    if (s.module k).score < weakScore ∧ isMotion (s.mover m).state then haltRequest m .permitLink s else s
  | none => s

/-- A timely reply of a PRESENT module raises its score by 1, to at most 15; its moment is kept for R135. A score of 15
does not change (R133). -/
def raiseScore (k : Fin 32) (s : State) : State :=
  weakLink k <|
    s.modModule k fun r =>
      { r with score := min scoreMax (r.score + 1), lastTimely := s.now, firstPoll := false }

/-! ### Timely replies (R129, R137) -/

def QueueFrame.answeredBy (f : QueueFrame) (k : Fin 32) (r : FieldReply) : Bool :=
  f.stage.isInFlight && f.module == k && f.seq == some r.seq && f.body.kind == r.kind
    && attemptByte f.attempt == r.attempt

def SideKind.frameKind : SideKind → FrameKind
  | .halt _ => .halt
  | .motionPoll _ => .poll

def SideFlight.answeredBy (x : SideFlight) (k : Fin 32) (r : FieldReply) : Bool :=
  x.module == k && x.seq == r.seq && x.kind.frameKind == r.kind

/-- The first result of a reply: the result of a TERMINAL_WRITE. A reply without one draws the free value (log entry
16). -/
def firstResult (results : List ItemResult) (s : State) : ItemResult × State :=
  match results with
  | x :: _ => (x, s)
  | [] => (Config.missingResult s.draws, { s with draws := s.draws + 1 })

/-- A confirmed frame's results are passed on (R129, R152). -/
def passResults (f : QueueFrame) (results : List ItemResult) (s : State) : State :=
  match f.body with
  | .levels items => takeItemResults items results s
  | .terminalWrite t _ order =>
    let (res, s1) := firstResult results s
    done order [wordOfNat (itemResultCode res)] (channelResult ⟨f.module, t⟩ res true s1)
  | .drive _ _ _ | .home _ _ | .poll _ _ => s

/-- A latch check completes with the reply to the POLL that serves it (R51). -/
def completeLatch (f : QueueFrame) (s : State) : State :=
  match f.body with
  | .poll true _ => raiseAll .latchState { s with latchCheck := false }
  | _ => s

/-- The module returns (R137): PRESENT with score 4, its return polls stopped. -/
def returnModule (k : Fin 32) (s : State) : State :=
  s.modModule k fun r =>
    { r with present := true, score := returnScore, lastTimely := s.now, firstPoll := false, returnDue := none }

/-- What the blocks are told of a return: the event, the LOST points requeued (R11), the interlocks (R100). It follows
all that the reply brings (log entry 52). -/
def tellReturn (k : Fin 32) (s : State) : State :=
  let s1 := raiseAll .modulePresent s
  let s2 := (s1.pointsOn k).foldl (fun s p => requeueLost p s) s1
  match s2.moverOfModule k with
  | some m => retestPartner m s2
  | none => s2

/-- The confirmed records leave the queue (R129). -/
def dropConfirmed (s : State) : State := s.withQueue (s.queue.filter fun g => g.stage != .confirmed)

/-- A timely reply to a queue frame: its record leaves the In-Flight List, and the queue once everything the reply
brings has been passed on (R129). Of a return this takes in what the blocks are told of it (R137; log entry 47). That a
returning reply's result comes before the LOST points are requeued, so that a point it makes FAULTED is handed no rewrite,
is the model's choice: R11, R137 and R143 give no order (log entry 52). -/
def frameAnswered (k : Fin 32) (f : QueueFrame) (r : FieldReply) (s : State) : State :=
  let s1 := { s with queue := s.queue.map fun g => if g.answeredBy k r then { g with stage := .confirmed } else g }
  dropConfirmed <|
    if (s.module k).present then
      completeLatch f (takeReply k none r (passResults f r.results (raiseScore k s1)))
    else tellReturn k (takeReply k none r (passResults f r.results (returnModule k s1)))

/-- A timely reply to a halt frame or a motion poll. -/
def sideAnswered (k : Fin 32) (x : SideFlight) (r : FieldReply) (s : State) : State :=
  let s1 := { s with sideFlights := s.sideFlights.filter fun y => !y.answeredBy k r }
  let answered := match x.kind with
    | .halt _ => some r.seq
    | .motionPoll _ => none
  takeReply k answered r (raiseScore k s1)

/-- An arriving reply: timely when it answers an entry of the In-Flight List (R129), otherwise late (R130; log entry
3). A reply whose module address names no module is discarded. -/
def takeArrival (r : FieldReply) (s : State) : State :=
  match moduleOf (r.module.setWidth 16) with
  | none => s
  | some k =>
    match s.queue.find? fun f => f.answeredBy k r with
    | some f => frameAnswered k f r s
    | none =>
      match s.sideFlights.find? fun x => x.answeredBy k r with
      | some x => sideAnswered k x r s
      | none => takeLate k r s

/-- A reply that is late whatever the In-Flight List holds: its deadline has passed (R130; log entry 3). -/
def takeLateArrival (r : FieldReply) (s : State) : State :=
  match moduleOf (r.module.setWidth 16) with
  | none => s
  | some k => takeLate k r s

/-! ### Losses and absence (R131, R134) -/

/-- The blocks are told of a frame declared lost; the record has left the queue (R131). A retired preset frame is no
longer a declaration's, and its loss ends none (R56, R124). -/
def tellLoss (s : State) (f : QueueFrame) : State :=
  let s1 := countLoss f.marks s
  match f.body with
  | .levels items =>
    items.foldl (fun s i => if i.tie = .live then itemLost i.point s else s) s1
  | .drive m _ _ => commandLost m s1
  | .home m none => commandLost m s1
  | .home _ (some _) => if f.retired then s1 else endDeclaration .ended .permitLink [] s1
  | .terminalWrite _ _ order => answer order .ended .permitLink [] s1
  | .poll latchCheck _ => if latchCheck then { s1 with latchCheck := false } else s1

/-- A frame serves a latch check. -/
def QueueFrame.servesLatch (f : QueueFrame) : Bool :=
  match f.body with
  | .poll l _ => l
  | .drive _ _ _ | .home _ _ | .levels _ | .terminalWrite _ _ _ => false

/-- The Motion Controller is told of an absence (R39(b), R56). -/
def motionAbsent (k : Fin 32) (s : State) : State :=
  let s1 := match s.declaration with
    | some d => if d.module = k then endDeclaration .ended .permitLink [] s else s
    | none => s
  match s1.moverOfModule k with
  | none => s1
  | some m =>
    let s2 := { s1 with haltSlots := s1.haltSlots.set none m }
    if isActive (s2.mover m).state then enterFaulted m .linkLost true s2 else s2

/-- A module goes ABSENT (R134). The frames lost with it are told to the blocks in queue order, the oldest first, which
orders the ENDED replies of several TERMINAL_WRITEs: the model's choice, R134 gives no order (log entry 54). -/
def goAbsent (k : Fin 32) (s : State) : State :=
  let lost := s.queue.filter fun f => f.module == k
  let dropped := fun f : QueueFrame => f.module == k && f.isPoll
  let s1 := (s.withQueue (s.queue.filter fun f => f.module != k)).modModule k fun r =>
    { r with present := false, score := 0, firstPoll := false, returnDue := some (s.now + returnPollTime) }
  let s2 := lost.foldl tellLoss s1
  let s3 := { s2 with
    sideFlights := s2.sideFlights.filter fun x => x.module != k
    latchCheck := s2.latchCheck && !(s2.awaitingRoom.any fun f => dropped f && f.servesLatch)
    awaitingRoom := s2.awaitingRoom.filter fun f => !dropped f }
  let s4 := raiseAll .moduleAbsent s3
  let s5 := motionAbsent k ((s4.pointsOn k).foldl (fun s p => loseToAbsence p s) s4)
  match s5.moverOfModule k with
  | some m => retestPartner m s5
  | none => s5

/-- The score after an expiry (R133). -/
def loweredScore (n : Nat) : Nat := n - 2

/-- An expiry's effect on the score. The answer says that the module goes ABSENT with it. -/
def reachesZero (r : ModuleRecord) : Bool := r.present && loweredScore r.score == 0

def lowerScore (k : Fin 32) (s : State) : State :=
  let s1 := s.modModule k fun r => { r with score := loweredScore r.score }
  if (s.module k).present then weakLink k s1 else s1

def QueueFrame.inFlightAs (k : Fin 32) (seq : Word) (f : QueueFrame) : Bool :=
  f.stage.isInFlight && f.module == k && f.seq == some seq

/-- The moment an in-flight frame's attempt expires. -/
def Stage.deadline : Stage → Nat
  | .inFlight d => d
  | .unsent | .awaitingResend | .confirmed => 0

/-- The expiry of a queue frame's present attempt (R131); a return poll's of a PRESENT module is any POLL's (log entry
46). -/
def frameExpires (k : Fin 32) (seq : Word) (f : QueueFrame) (s0 : State) : State :=
  let s := s0.reach f.stage.deadline
  if reachesZero (s.module k) then goAbsent k s
  else
    let gone := s.withQueue (s.queue.filter fun g => !g.inFlightAs k seq)
    if f.retired then lowerScore k gone
    else if f.isPoll || decide (2 ≤ f.attempt) then tellLoss (lowerScore k gone) f
    else
      lowerScore k
        { s with queue := s.queue.map fun g => if g.inFlightAs k seq then { g with stage := .awaitingResend } else g }

/-- The expiry of a halt frame or a motion poll (R131): the halt frame waits again in its slot, if the slot still
holds it. -/
def sideExpires (k : Fin 32) (x : SideFlight) (s0 : State) : State :=
  let s := s0.reach x.deadline
  if reachesZero (s.module k) then goAbsent k s
  else
    let s1 := { s with sideFlights := s.sideFlights.filter fun y => !(y.module == k && y.seq == x.seq) }
    let s2 := match x.kind with
      | .motionPoll _ => s1
      | .halt m =>
        if s1.slotHolds m x.seq then
          { s1 with haltSlots :=
              s1.haltSlots.set ((s1.haltSlots.get m).map fun h => { h with stage := .waitingToSend }) m }
        else s1
    lowerScore k s2

/-- The reply deadline of the in-flight entry with this module and wire sequence number expires. -/
def deadlineExpires (k : Fin 32) (seq : Word) (s : State) : State :=
  match s.queue.find? (QueueFrame.inFlightAs k seq) with
  | some f => frameExpires k seq f s
  | none =>
    match s.sideFlights.find? fun x => x.module == k && x.seq == seq with
    | some x => sideExpires k x s
    | none => s

/-! ### Polls (R51, R135, R137) -/

/-- A POLL of the module is in the queue, or held for want of admission (R123, R135). -/
def State.pollWaits (s : State) (k : Fin 32) : Bool :=
  (s.queue ++ s.awaitingRoom).any fun f => f.module == k && f.isPoll

def handPoll (k : Fin 32) (latchCheck isReturn : Bool) (s : State) : State :=
  handFrame (QueueFrame.fresh k (.poll latchCheck isReturn)) s

/-- The mover of a module, if any, is not in a motion state. -/
def State.moverQuiet (s : State) (k : Fin 32) : Bool :=
  match s.moverOfModule k with
  | some m => !isMotion (s.mover m).state
  | none => true

/-- A routine poll falls due (R135): at once after the bring-up (R141; log entry 14), otherwise 100 ms after the last
timely reply, or after the restart. -/
def routinePoll (k : Fin 32) (s : State) : State :=
  let r := s.module k
  if s.inUse k && r.present && s.moverQuiet k && !s.pollWaits k then
    handPoll k false false <|
      (if r.firstPoll then s else s.reach (r.lastTimely + routinePollTime)).setModule k { r with firstPoll := false }
  else s

/-- A return poll falls due (R137). -/
def returnPoll (k : Fin 32) (s : State) : State :=
  match (s.module k).returnDue with
  | some t =>
    if s.inUse k && !(s.module k).present && !s.pollWaits k then
      handPoll k false true ((s.reach t).modModule k fun r => { r with returnDue := none })
    else s
  | none => s

/-- The hatch button's latch check (R51): it joins an unsent POLL of the hatch module, or a new POLL is handed. -/
def checkLatch (s : State) : State :=
  let k := s.moduleOfMover .hatch
  if s.latchCheck || !(s.module k).present then s
  else
    let s1 := { s with latchCheck := true }
    let joins := fun f : QueueFrame => f.module == k && f.isPoll && f.stage == .unsent
    match s1.queue.findIdx? joins with
    | some i => { s1 with queue := s1.queue.modify i fun f => { f with body := .poll true false } }
    | none => handPoll k true false s1

end Sys2Proof.Machine
end

