-- ==== Sys2Proof/Machine/Zones.lean ====
section
/-! DEFINITION. What Zone Control does when it applies a SET_POINT or a RECALL_SCENE (R13, R16), and the watch windows
and held orders of the Concurrence Unit (R105 to R111). -/

namespace Sys2Proof.Machine

/-! ### Applying an order on points (R13, R16) -/

/-- The note FORCED of a DONE reply. -/
def forcedNote (forced : Bool) : Reason := if forced then .forced else .noReason

/-- A force on the point is active. -/
def State.forced (s : State) (p : Nat) : Bool := !(s.activeForces p).isEmpty

/-- The point's effective level, 0 for a point the table does not hold. -/
def State.effectiveOf (s : State) (p : Nat) : Int := ((s.point? p).map fun e => e.effective).getD 0

/-- SET_POINT is applied (R13). -/
def applySetPoint (r : OrderRef) (p : Nat) (level fade : Int) (s : State) : State :=
  let s1 := writePoint p level fade (.station r.station) s
  answer r .done (forcedNote (s.forced p)) [wordOf (s1.effectiveOf p)] s1

/-- The item's point is a configured writable point of the zone, and its level valid for its kind (R16). -/
def State.itemFits (s : State) (zone : Nat) (i : SceneItem) : Bool :=
  match s.writable? i.point with
  | some e => e.zone == zone && levelValid e.kind i.level
  | none => false

/-- RECALL_SCENE is applied: the record's items in list order, those that no longer fit skipped (R16). -/
def applyRecall (r : OrderRef) (zone scene : Nat) (s : State) : State :=
  match s.scene? zone scene with
  | none => refuse r (.badOperand, []) s
  | some rec =>
    let fits := rec.items.filter (s.itemFits zone)
    let s1 := fits.foldl (fun s i => writePoint i.point i.level i.fade (.scene r.station) s) s
    answer r .done (forcedNote (fits.any fun i => s.forced i.point))
      [wordOfNat scene, wordOfNat fits.length, wordOfNat (rec.items.length - fits.length)] s1

/-- The target and operand checks of SET_POINT (R13). -/
def setPointChecks (s : State) (p : Nat) (words : List Word) : List (Option Denial) :=
  match s.writable? p with
  | none => [deny true .badTarget]
  | some e =>
    match words with
    | [level, fade] => [deny (!(levelValid e.kind level.toInt && fadeValid fade.toInt)) .badOperand]
    | _ => [deny true .badOperand]

/-- The Order Screen's answer to a recall: the scene to look up, or MODE_INVALID (R89). -/
def screenRecall (s : State) (zone scene : Nat) (go : Nat → State → State) (r : OrderRef) : State :=
  match s.screenedScene zone scene with
  | none => refuse r (.modeInvalid, []) s
  | some found => go found s

/-! ### Windows (R105) -/

/-- The run of points a window spans. -/
def Window.span (w : Window) : Nat := 2 ^ w.width

def Window.covers (w : Window) (p : Nat) : Bool := decide (w.base ≤ p ∧ p < w.base + w.span)

/-- The owner of the window of an index (Table 6-2). -/
def windowOwner (i : Fin 6) : Station :=
  if i.val < 2 then .one else if i.val < 4 then .two else .three

/-- Window w of a station (Table 6-2). -/
def windowIndex (n : Station) (second : Bool) : Fin 6 :=
  match n, second with
  | .one, false => 0 | .one, true => 1
  | .two, false => 2 | .two, true => 3
  | .three, false => 4 | .three, true => 5

/-- The OPEN windows of a kind, of stations other than `n`, that catch an order touching these points (R105, R108). -/
def State.catching (s : State) (n : Station) (isHold : Bool) (points : List Nat) : List (Fin 6) :=
  (List.finRange 6).filter fun i =>
    let w := s.windows[i]
    w.isOpen && w.isHold == isHold && windowOwner i != n && points.any w.covers

def markOf (i : Fin 6) : BitVec 6 := 1#6 <<< i.val

def marksOf (l : List (Fin 6)) : BitVec 6 := l.foldl (fun b i => b ||| markOf i) 0

/-- The number of marks of a set. -/
def markCount (b : BitVec 6) : Nat := ((List.finRange 6).filter fun i => b.getLsbD i.val).length

/-- The stations that own a window of a list, each once. -/
def ownersOf (l : List (Fin 6)) : List Station := allStations.filter fun n => l.any fun i => windowOwner i == n

/-! ### Reports (R109) -/

/-- An entry joins the report list; the oldest of nine is removed. -/
def addReport (rep : Report) (l : List Report) : List Report := (l ++ [rep]).drop (l.length + 1 - reportCapacity)

def makeReports (l : List (Fin 6)) (rep : Report) (s : State) : State :=
  (ownersOf l).foldl
    (fun s n => raise .watchReport n (s.modStation n fun r => { r with reports := addReport rep r.reports })) s

/-! ### The Held Order List (R108, R110, R111) -/

def HeldOrder.code : HeldOrder → Byte
  | .setPoint _ _ _ => codeSetPoint
  | .recall _ _ => codeRecallScene

def HeldOrder.target : HeldOrder → Nat
  | .setPoint p _ _ => p
  | .recall zone _ => zone

/-- The first number from `n`, wrapping from 255 to 0, that no entry uses (R110). -/
def freeHold (used : List Byte) : Nat → Byte → Byte
  | 0, n => n
  | fuel + 1, n => if used.contains n then freeHold used fuel (n + 1) else n

/-- The order is held (R110). -/
def holdOrder (r : OrderRef) (what : HeldOrder) (judgedScene : Nat) (l : List (Fin 6)) (s : State) : State :=
  let number := freeHold (s.held.map fun h => h.hold) s.held.length s.nextHold
  let s1 := { s with
    held := s.held ++ [⟨number, r, what, judgedScene, marksOf l, s.now + holdTime⟩]
    nextHold := number + 1 }
  (ownersOf l).foldl (fun s n => raise .holdPending n s) s1

/-- The Concurrence Unit judges an order (R108): it goes on, is held, or is refused HOLD_FULL. -/
def passWindows (r : OrderRef) (what : HeldOrder) (judgedScene : Nat) (points : List Nat) (rep : Report)
    (go : State → State) (s : State) : State :=
  let holds := s.catching r.station true points
  let reports := s.catching r.station false points
  if holds.isEmpty then go (makeReports reports rep s)
  else if s.held.length < heldCapacity then makeReports reports rep (holdOrder r what judgedScene holds s)
  else refuse r (.holdFull, []) s

/-- A released order is taken again by its owning block, past the windows (R111). -/
def retake (r : OrderRef) (what : HeldOrder) (s : State) : State :=
  match what with
  | .setPoint p level fade =>
    judged r (setPointChecks s p [wordOf level, wordOf fade]) (applySetPoint r p level fade) s
  | .recall zone scene => screenRecall s zone scene (fun found s => applyRecall r zone found s) r

/-- The entry, already out of the list, is released (R111). -/
def releaseHeld (s : State) (h : HeldEntry) : State :=
  retake h.order h.what (raise .holdResolved h.order.station s)

/-- The windows of a list that are OPEN, as marks. -/
def State.openMarks (s : State) (l : List (Fin 6)) : BitVec 6 := marksOf (l.filter fun i => s.windows[i].isOpen)

/-- The entries the closure of these windows leaves with no mark, oldest first; a CLOSED window has none to take. -/
def State.releasedBy (s : State) (l : List (Fin 6)) : List HeldEntry :=
  s.held.filter fun h => (h.marks &&& s.openMarks l) != 0 && (h.marks &&& ~~~(s.openMarks l)) == 0

/-- Windows are closed: their marks are removed, and the entries left with none are released, oldest first (R107,
R116). A CLOSED window is closed again without effect. -/
def closeWindows (l : List (Fin 6)) (s : State) : State :=
  (s.releasedBy l).foldl releaseHeld
    { s with
      windows := l.foldl (fun v (i : Fin 6) => v.set i { v[i] with isOpen := false }) s.windows
      held := (s.held.map fun h => { h with marks := h.marks &&& ~~~(s.openMarks l) }).filter fun h => h.marks != 0 }

end Sys2Proof.Machine
end

