-- ==== Sys2Proof/Machine/ZoneControl.lean ====
section
/-! DEFINITION. The orders of Zone Control: READ_POINT, SET_POINT, RECALL_SCENE, STORE_SCENE, ERASE_SCENE (R12, R13,
R16 to R18). Each `judge…` takes an order from its intake; each `exec…` is the command's meaning. -/

namespace Sys2Proof.Machine

/-! ### READ_POINT (R12) -/

def pointWords (s : State) (e : PointEntry) : List Word :=
  let sense := e.kind = .sense
  [wordOfNat e.kind.code, wordOfNat e.zone,
   if sense then wordOrMinusOne e.confirmed else wordOf e.requested,
   if sense then wordOrMinusOne e.confirmed else wordOf e.effective,
   wordOrMinusOne e.confirmed, wordOfNat e.delivery.code, wordOfNat e.lastWriter.code, wordOf e.lastFade,
   wordOfNat (s.bindingInForce e).code]

def judgeReadPoint (o : OrderFrame) (r : OrderRef) (s : State) : State :=
  match s.point? o.target.toNat with
  | none => refuse r (.badTarget, []) s
  | some e => judged r [deny (!noWords o) .badOperand] (done r (pointWords s e)) s

def execReadPoint (o : OrderFrame) (s : State) : Host.Outcome State Fault Refusal :=
  run (arrive codeReadPoint o (judgeReadPoint o)) s

/-! ### SET_POINT (R13) -/

def judgeSetPoint (o : OrderFrame) (r : OrderRef) (s : State) : State :=
  let p := o.target.toNat
  match firstDenial (setPointChecks s p o.words), o.words with
  | some d, _ => refuse r d s
  | none, [level, fade] =>
    passWindows r (.setPoint p level.toInt fade.toInt) 0 [p] ⟨o.station, false, p, level.toInt⟩
      (applySetPoint r p level.toInt fade.toInt) s
  | none, _ => refuse r (.badOperand, []) s

def execSetPoint (o : OrderFrame) (s : State) : Host.Outcome State Fault Refusal :=
  run (arrive codeSetPoint o (judgeSetPoint o)) s

/-! ### RECALL_SCENE (R16) -/

/-- The scene operand, 0 to 7, when it is the order's one word. -/
def sceneOperand (o : OrderFrame) : Option Nat :=
  match oneWord o with
  | some w => if w.toNat ≤ 7 then some w.toNat else none
  | none => none

def judgeRecallScene (o : OrderFrame) (r : OrderRef) (s : State) : State :=
  let zone := o.target.toNat
  if zoneCount ≤ zone then refuse r (.badTarget, []) s
  else
    match sceneOperand o with
    | none => refuse r (.badOperand, []) s
    | some scene =>
      screenRecall s zone scene (r := r) fun found s =>
        match s.scene? zone found with
        | none => refuse r (.badOperand, []) s
        | some rec =>
          passWindows r (.recall zone scene) found (rec.items.map fun i => i.point) ⟨o.station, true, zone, found⟩
            (applyRecall r zone found) s

def execRecallScene (o : OrderFrame) (s : State) : Host.Outcome State Fault Refusal :=
  run (arrive codeRecallScene o (judgeRecallScene o)) s

/-! ### STORE_SCENE (R15, R17) -/

/-- Item words in threes: point, level, fade; none when their count is zero or no multiple of three. -/
def sceneItems : List Word → Option (List SceneItem)
  | [p, l, f] => some [⟨p.toNat, l.toInt, f.toInt⟩]
  | p :: l :: f :: rest => (sceneItems rest).map fun items => ⟨p.toNat, l.toInt, f.toInt⟩ :: items
  | _ => none

/-- An item the store accepts after the items before it in the record (R15, R17). -/
def State.itemAccepted (s : State) (zone : Nat) (before : List SceneItem) (i : SceneItem) : Bool :=
  s.itemFits zone i && fadeValid i.fade && !(before.any fun j => j.point == i.point)
    && decide (before.length < sceneItemCapacity)

/-- The position, from 1, of the first item the record does not accept. -/
def State.firstBadItem (s : State) (zone : Nat) : Nat → List SceneItem → List SceneItem → Option Nat
  | _, _, [] => none
  | k, before, i :: rest =>
    if s.itemAccepted zone before i then s.firstBadItem zone (k + 1) (before ++ [i]) rest else some k

/-- The store with the record of this key created or replaced whole. -/
def State.putScene (s : State) (rec : SceneRecord) : State :=
  { s with scenes := (s.scenes.filter fun x => !(x.zone == rec.zone && x.scene == rec.scene)) ++ [rec] }

/-- A scene word: 0 to 7 stores, 8 to 15 appends (R17). The answer is the scene number and the items the record
starts with; none when the word is out of range or an append finds no record. -/
def State.sceneBase (s : State) (zone : Nat) (w : Word) : Option (Nat × List SceneItem) :=
  if w.toNat ≤ 7 then some (w.toNat, [])
  else if w.toNat ≤ 15 then (s.scene? zone (w.toNat - 8)).map fun rec => (w.toNat - 8, rec.items)
  else none

/-- The checks of R17. An item that names no configured point is refused BAD_ITEM, as its third check says, and not
BAD_TARGET as the sentence of R1 on points named by orders would have it (log entry 43). -/
def judgeStoreScene (o : OrderFrame) (r : OrderRef) (s : State) : State :=
  let zone := o.target.toNat
  if zoneCount ≤ zone then refuse r (.badTarget, []) s
  else
    match o.words with
    | [] => refuse r (.badOperand, []) s
    | w :: rest =>
      match s.sceneBase zone w, sceneItems rest with
      | some (scene, base), some items =>
        judged r
          [needs s o.station fun p => p.sceneEdit,
           (s.firstBadItem zone 1 base items).map fun k => (.badItem, [wordOfNat k]),
           deny ((s.scene? zone scene).isNone && decide (sceneCapacity ≤ s.scenes.length)) .storeFull]
          (fun s => done r [wordOfNat (base ++ items).length] (s.putScene ⟨zone, scene, base ++ items⟩)) s
      | _, _ => refuse r (.badOperand, []) s

def execStoreScene (o : OrderFrame) (s : State) : Host.Outcome State Fault Refusal :=
  run (arrive codeStoreScene o (judgeStoreScene o)) s

/-! ### ERASE_SCENE (R18) -/

def judgeEraseScene (o : OrderFrame) (r : OrderRef) (s : State) : State :=
  let zone := o.target.toNat
  if zoneCount ≤ zone then refuse r (.badTarget, []) s
  else
    match sceneOperand o with
    | none => refuse r (.badOperand, []) s
    | some scene =>
      judged r [needs s o.station fun p => p.sceneEdit]
        (fun s =>
          done r [flagWord (s.scene? zone scene).isSome]
            { s with scenes := s.scenes.filter fun x => !(x.zone == zone && x.scene == scene) }) s

def execEraseScene (o : OrderFrame) (s : State) : Host.Outcome State Fault Refusal :=
  run (arrive codeEraseScene o (judgeEraseScene o)) s

end Sys2Proof.Machine
end

