-- ==== Sys2Proof/Machine/ClaimArbiter.lean ====
section
/-! DEFINITION. The commands of the Claim Arbiter: CLAIM, RELEASE, RENEW (R68, R70 to R73), LEASE_EXPIRY, OVERRIDE and
LOCAL_HOLD_EXPIRY (R69, R77, R78), and the presses and releases of the local controls (R51, R57, R60 to R62, R76,
R90). -/

namespace Sys2Proof.Machine

/-! ### CLAIM (R70, R71) -/

/-- The orderer becomes the holder of a free claim (R70). -/
def takeFree (m : Mover) (n : Station) (s : State) : State :=
  setLease m .rest (s.modClaim m fun c => { c with holder := .station n, ending := .notEnding })

/-- A CLAIM past its checks, by the claim's holder. -/
def claimScreened (o : OrderFrame) (m : Mover) (r : OrderRef) (s : State) : State :=
  let c := s.claim m
  if c.holder = .nobody then done r [] (takeFree m o.station s)
  else if c.holder = .station o.station then done r [] (renewLease m s)
  else if !waitBit o then refuse r (.heldBy, [wordOfNat c.holder.code]) s
  else if c.waiters.any fun w => w.station == o.station then refuse r (.busy, []) s
  else s.modClaim m fun c => { c with waiters := c.waiters ++ [r] }

def judgeClaim (o : OrderFrame) (r : OrderRef) (s : State) : State :=
  match moverOf o.target with
  | none => refuse r (.badTarget, []) s
  | some m =>
    judged r
      [deny (!noWords o) .badOperand,
       needs s o.station fun p => p.movers.get m,
       deny ((s.claim m).holder == .station o.station && (s.claim m).ending != .notEnding) .busy]
      (claimScreened o m r) s

def execClaim (o : OrderFrame) (s : State) : Host.Outcome State Fault Refusal :=
  run (arrive codeClaim o (judgeClaim o)) s

/-! ### RELEASE (R73) -/

def letGo (m : Mover) (r : OrderRef) (s : State) : State :=
  if isActive (s.mover m).state then
    haltRequest m .halted (setEnding m .releasing (s.modClaim m fun c => { c with releaseOrder := some r }))
  else done r [] (passClaim m s)

def judgeRelease (o : OrderFrame) (r : OrderRef) (s : State) : State :=
  match moverOf o.target with
  | none => refuse r (.badTarget, []) s
  | some m =>
    judged r [deny (!noWords o) .badOperand, deny (!s.holds o.station m) .notHolder] (letGo m r) s

def execRelease (o : OrderFrame) (s : State) : Host.Outcome State Fault Refusal :=
  run (arrive codeRelease o (judgeRelease o)) s

/-! ### RENEW (R68) -/

/-- Lease kind code and lease length in tenths of a second (Table 4-2). -/
def leaseWords (c : ClaimRecord) : List Word :=
  match c.lease with
  | some kind => [wordOfNat kind.code, wordOfNat (leaseLength kind / 100)]
  | none => []

def judgeRenew (o : OrderFrame) (r : OrderRef) (s : State) : State :=
  match moverOf o.target with
  | none => refuse r (.badTarget, []) s
  | some m =>
    judged r [deny (!noWords o) .badOperand, deny (!s.holds o.station m) .notHolder]
      (fun s => done r (leaseWords (s.claim m)) (renewLease m s)) s

def execRenew (o : OrderFrame) (s : State) : Host.Outcome State Fault Refusal :=
  run (arrive codeRenew o (judgeRenew o)) s

/-! ### LEASE_EXPIRY (R69) -/

def expireLease (m : Mover) (s : State) : State :=
  let c := s.claim m
  match c.holder, c.ending, c.deadline with
  | .station n, .notEnding, some t =>
    let s1 := raise .claimExpired n (s.reach t)
    if isActive (s.mover m).state then haltRequest m .claimLost (setEnding m .expiring s1) else passClaim m s1
  | _, _, _ => s

def execLeaseExpiry (m : Mover) (s : State) : Host.Outcome State Fault Refusal := run (expireLease m) s

/-! ### OVERRIDE (R77) -/

/-- Step 1: the former holder's part ends. -/
def endHolder (m : Mover) (n : Station) (s : State) : State :=
  match (s.claim m).ending with
  | .notEnding => raise .claimRevoked n s
  | .releasing => answerRelease m s
  | .expiring | .revoked | .detached => s

/-- Step 4: the deferred reply is answered and a moving or recovering mover halted. -/
def revokeMotion (m : Mover) (s : State) : State :=
  let s1 := answerDeferred m .ended .claimLost s
  if isMotionOrRecovering (s1.mover m).state then haltRequest m .claimLost s1 else s1

/-- The five steps of R77, in order. -/
def overrideClaim (m : Mover) (s : State) : State :=
  let c := s.claim m
  match c.holder, c.override with
  | .station n, some t =>
    let s1 := endHolder m n (s.reach t)
    let s2 := (localHolder m s1).modClaim m fun c =>
      { c with ending := if isActive (s.mover m).state then .revoked else .notEnding }
    let s3 := revokeMotion m (raiseAll .localOverride s2)
    tellHeld m (s3.modClaim m fun c => { c with override := none })
  | _, _ => s

def execOverride (m : Mover) (s : State) : Host.Outcome State Fault Refusal := run (overrideClaim m) s

/-! ### LOCAL_HOLD_EXPIRY (R78) -/

def expireHold (m : Mover) (s : State) : State :=
  match (s.claim m).localHold with
  | none => s
  | some t =>
    let s1 := (s.reach t).modClaim m fun c => { c with localHold := none }
    if isActive (s.mover m).state then s1.modClaim m fun c => { c with passPending := true } else passClaim m s1

def execLocalHoldExpiry (m : Mover) (s : State) : Host.Outcome State Fault Refusal := run (expireHold m) s

/-! ### The local controls (R57, R60, R61, R62, R76, R90) -/

/-- Both foot switches are released: a new press may drive again (R61). -/
def clearFootBlock (s : State) : State :=
  if s.controls.windlassHeave = .released ∧ s.controls.windlassPayOut = .released then { s with footBlocked := false }
  else s

/-- A qualified release. The release of a press that passed goes on to the Claim Arbiter, that of another is dropped
(R90, R62). -/
def releaseControl (c : Control) (s : State) : State :=
  let before := s.control c
  let s1 := s.setControl c .released
  clearFootBlock (if before = .passed then arbiterRelease (moverOfControl c) c s1 else s1)

/-- What the screen does with a press in UNDERWAY (R90): a hatch press becomes a latch check, a heave passes, the
others are screened out. -/
def underwayPress (c : Control) (s : State) : State :=
  match c with
  | .hatchButton => checkLatch (s.setControl c .screened)
  | .platformUp | .platformDown | .windlassPayOut => raiseAll .localRefused (s.setControl c .screened)
  | .windlassHeave => arbiterPress (moverOfControl c) c (s.setControl c .passed)

/-- A press after the screen. -/
def screenPress (c : Control) (s : State) : State :=
  if s.cond.mode = .underway then underwayPress c s
  else arbiterPress (moverOfControl c) c (s.setControl c .passed)

/-- The lever's other position, which a press of one position releases first (R60; log entry 39). -/
def leverOther : Control → Option Control
  | .platformUp => some .platformDown
  | .platformDown => some .platformUp
  | .hatchButton | .windlassHeave | .windlassPayOut => none

/-- A qualified press. A control that has not been released since its last press, or since the restart, makes no
press (R57, R62). -/
def pressControl (c : Control) (s : State) : State :=
  if s.control c ≠ .released then s
  else
    match leverOther c with
    | some d => screenPress c (if s.control d = .released then s else releaseControl d s)
    | none => screenPress c s

def execLocalControlPressed (c : Control) (s : State) : Host.Outcome State Fault Refusal := run (pressControl c) s

def execLocalControlReleased (c : Control) (s : State) : Host.Outcome State Fault Refusal :=
  run (fun s => if s.control c = .released then s else releaseControl c s) s

end Sys2Proof.Machine
end

