-- ==== Sys2Proof/Machine/MotionController.lean ====
section
/-! DEFINITION. The commands of the Motion Controller: MOVE, HOME, HALT, READY, RESET_MOVER, SET_CHAIN_OUT (R26 to R29,
R40, R43, R44, R55) and its four timers (R31 to R33, R35). -/

namespace Sys2Proof.Machine

/-! ### MOVE (R26 to R28) -/

/-- With WAIT the order becomes the deferred reply; without, it is answered ACCEPTED with the state code (R27). -/
def takeDeferral (o : OrderFrame) (m : Mover) (r : OrderRef) (s : State) : State :=
  if waitBit o then s.modMover m fun x => { x with deferred := some r }
  else answer r .accepted .noReason [wordOfNat (s.mover m).state.code] s

/-- A MOVE whose target lies within tolerance of the present position starts nothing (R27; log entry 41). -/
def moveInPlace (m : Mover) (r : OrderRef) (s : State) : State :=
  let s1 := s.modMover m fun x => x.enter .idle
  done r (outcomeWords { s1.mover m with attempts := 0 }) s1

/-- A MOVE that starts a motion (R27). -/
def startMove (o : OrderFrame) (m : Mover) (target : Int) (r : OrderRef) (s : State) : State :=
  if withinTolerance m target (s.mover m).position then moveInPlace m r s
  else takeDeferral o m r (startDrive m target (attendedBit o) (noRetryBit o) s)

/-- A retarget is taken on the first drive of a sequence, toward the same side and further than the tolerance (R28). -/
def retargets (m : Mover) (rec : MoverRecord) (target : Int) : Bool :=
  let current := rec.target.getD rec.position
  rec.attempts == 0
    && decide ((rec.position < current ∧ rec.position < target) ∨ (current < rec.position ∧ target < rec.position))
    && !withinTolerance m target rec.position

/-- A retarget changes the lease kind when attended changes (R66). -/
def retargetLease (m : Mover) (before : Bool) (s : State) : State :=
  if (s.mover m).attended = before then s else startLease m s

/-- The six steps of R28. -/
def retarget (o : OrderFrame) (m : Mover) (target : Int) (r : OrderRef) (s : State) : State :=
  let before := (s.mover m).attended
  let s1 := (answerDeferred m .ended .superseded s).modMover m fun x =>
    { x with target := some target, attended := attendedBit o, noRetry := noRetryBit o }
  takeDeferral o m r <|
    retargetLease m before (handCommand m (.drive m target (tolerance m)) s1)

/-- A MOVE past the Order Screen: the claim, the state, the permit (R26). -/
def moveScreened (o : OrderFrame) (m : Mover) (target : Int) (r : OrderRef) (s : State) : State :=
  let mv := s.mover m
  let permit := denyPermit s m (attendedBit o) (.toward target)
  if !s.holds o.station m then refuse r (.notHolder, []) s
  else
    match mv.state with
    | .unhomed => refuse r (.notHomed, []) s
    | .faulted => refuse r (.moverFaulted, []) s
    | .homing | .settling | .recovering | .halting => refuse r (.busy, []) s
    | .moving => judged r [deny (!retargets m mv target) .busy, permit] (retarget o m target r) s
    | .halted => judged r [deny (!mv.valid) .notHomed, permit] (startMove o m target r) s
    | .idle => judged r [permit] (startMove o m target r) s

/-- The position operand, on the machine's scale, when it is the order's one word (R26). -/
def positionOperand (o : OrderFrame) (s : State) (m : Mover) : Option Int :=
  match oneWord o with
  | some w => if 0 ≤ w.toInt ∧ w.toInt ≤ scaleTop s.params.chainLength m then some w.toInt else none
  | none => none

def judgeMove (o : OrderFrame) (r : OrderRef) (s : State) : State :=
  match moverOf o.target with
  | none => refuse r (.badTarget, []) s
  | some m =>
    match positionOperand o s m with
    | none => refuse r (.badOperand, []) s
    | some target =>
      judged r [screenMotion s o.station m (some target) (attendedBit o)]
        (fun s => moveScreened o m target r (renewAttended o.station m s)) s

def execMove (o : OrderFrame) (s : State) : Host.Outcome State Fault Refusal :=
  run (arrive codeMove o (judgeMove o)) s

/-! ### HOME (R29) -/

def homeScreened (o : OrderFrame) (m : Mover) (r : OrderRef) (s : State) : State :=
  judged r
    [deny (!s.holds o.station m) .notHolder,
     deny (isActive (s.mover m).state) .busy,
     denyPermit s m (attendedBit o) .homing]
    (fun s => takeDeferral o m r (startHoming m (attendedBit o) (noRetryBit o) s)) s

def judgeHome (o : OrderFrame) (r : OrderRef) (s : State) : State :=
  match moverOf o.target with
  | none => refuse r (.badTarget, []) s
  | some m =>
    judged r [deny (!noWords o) .badOperand, screenMotion s o.station m none (attendedBit o)]
      (fun s => homeScreened o m r (renewAttended o.station m s)) s

def execHome (o : OrderFrame) (s : State) : Host.Outcome State Fault Refusal :=
  run (arrive codeHome o (judgeHome o)) s

/-! ### HALT (R40) -/

def haltAll (targets : List Mover) (s : State) : State := targets.foldl (fun s m => haltRequest m .halted s) s

def judgeHalt (o : OrderFrame) (r : OrderRef) (s : State) : State :=
  match haltTargets o.target with
  | none => refuse r (.badTarget, []) s
  | some targets =>
    judged r [deny (!noWords o) .badOperand]
      (fun s =>
        let s1 := haltAll targets (targets.foldl (fun s m => renewAttended o.station m s) s)
        done r (targets.map fun m => wordOfNat (s1.mover m).state.code) s1) s

def execHalt (o : OrderFrame) (s : State) : Host.Outcome State Fault Refusal :=
  run (arrive codeHalt o (judgeHalt o)) s

/-! ### READY (R43) -/

def readyWords (s : State) (m : Mover) : List Word :=
  let mv := s.mover m
  let c := s.claim m
  [wordOfNat mv.state.code, wordOf mv.position, flagWord mv.valid, wordOrMinusOne mv.target, wordOfNat mv.attempts,
   wordOfNat c.holder.code, wordOfNat c.ending.code, wordOfNat mv.lastFault.code]

def judgeReady (o : OrderFrame) (r : OrderRef) (s : State) : State :=
  match moverOf o.target with
  | none => refuse r (.badTarget, []) s
  | some m =>
    judged r [deny (!noWords o) .badOperand]
      (fun s => done r (readyWords s m) (renewAttended o.station m s)) s

def execReady (o : OrderFrame) (s : State) : Host.Outcome State Fault Refusal :=
  run (arrive codeReady o (judgeReady o)) s

/-! ### RESET_MOVER (R44) -/

/-- A FAULTED mover goes to HALTED or UNHOMED; another resting mover is unchanged. -/
def resetFaulted (m : Mover) (s : State) : State :=
  if (s.mover m).state = .faulted then
    s.modMover m fun x => { x.enter (if x.valid then .halted else .unhomed) with attempts := 0 }
  else s

def judgeResetMover (o : OrderFrame) (r : OrderRef) (s : State) : State :=
  match moverOf o.target with
  | none => refuse r (.badTarget, []) s
  | some m =>
    judged r [deny (!noWords o) .badOperand]
      (fun s =>
        let s1 := renewAttended o.station m s
        judged r [deny (!s1.holds o.station m) .notHolder, deny (isActive (s1.mover m).state) .busy]
          (fun s =>
            let s2 := resetFaulted m s
            done r [wordOfNat (s2.mover m).state.code] s2) s1) s

def execResetMover (o : OrderFrame) (s : State) : Host.Outcome State Fault Refusal :=
  run (arrive codeResetMover o (judgeResetMover o)) s

/-! ### SET_CHAIN_OUT (R55) -/

/-- The declared value, when the operand passes R55's second check. -/
def chainOperand (o : OrderFrame) (s : State) : Option Int :=
  match oneWord o with
  | none => none
  | some w =>
    let v := w.toInt
    let home := s.seenMade .windlass s.cond.anchorHome
    if v < 0 ∨ s.params.chainLength < v ∨ (v = 0 ∧ !home) ∨ (2 ≤ v ∧ home) then none else some v

/-- Held by another station or by LOCAL, whatever the ending (R75). -/
def heldByOther (c : ClaimRecord) (n : Station) : Bool := c.holder != .nobody && c.holder != .station n

/-- The declaration is taken (R55). -/
def declareChain (v : Int) (r : OrderRef) (s : State) : State :=
  handCommand .windlass (.home .windlass (some v))
    { s.modMover .windlass fun x => { x.enter .unhomed with valid := false } with
      declaration := some ⟨v, some r, s.moduleOfMover .windlass⟩ }

def chainScreened (o : OrderFrame) (v : Int) (r : OrderRef) (s : State) : State :=
  let c := s.claim .windlass
  let st := (s.mover .windlass).state
  judged r
    [deny (heldByOther c o.station) .heldBy [wordOfNat c.holder.code],
     deny (isActive st) .busy,
     deny (st == .faulted) .moverFaulted,
     deny s.declaration.isSome .busy,
     deny (!(s.module (s.moduleOfMover .windlass)).present) .permitLink]
    (declareChain v r) s

def judgeSetChainOut (o : OrderFrame) (r : OrderRef) (s : State) : State :=
  if moverOf o.target ≠ some .windlass then refuse r (.badTarget, []) s
  else
    match chainOperand o s with
    | none => refuse r (.badOperand, []) s
    | some v =>
      judged r [needs s o.station fun p => p.maint]
        (fun s => chainScreened o v r (renewAttended o.station .windlass s)) s

def execSetChainOut (o : OrderFrame) (s : State) : Host.Outcome State Fault Refusal :=
  run (arrive codeSetChainOut o (judgeSetChainOut o)) s

/-! ### The timers -/

/-- The travel time limit expires in MOVING (R31, R33). -/
def expireTravel (m : Mover) (s : State) : State :=
  match (s.mover m).travel with
  | some t => if (s.mover m).state = .moving then motionFault m .travelTime (s.reach t) else s
  | none => s

def execTravelTimeExpiry (m : Mover) (s : State) : Host.Outcome State Fault Refusal := run (expireTravel m) s

/-- The stall window expires in MOVING (R33) or in HOMING (R30). -/
def expireStall (m : Mover) (s : State) : State :=
  match (s.mover m).stall with
  | none => s
  | some t =>
    match (s.mover m).state with
    | .moving => motionFault m .stall (s.reach t)
    | .homing => homingFails m .homeNotFound (s.reach t)
    | _ => s

def execStallWindowExpiry (m : Mover) (s : State) : Host.Outcome State Fault Refusal := run (expireStall m) s

/-- The settle time expires in SETTLING: the settle condition is tested (R32). -/
def expireSettle (m : Mover) (s : State) : State :=
  match (s.mover m).settle with
  | some t =>
    if (s.mover m).state = .settling then
      if s.settles m ((s.mover m).target.getD 0) then comeToRest m .idle .done .noReason (s.reach t)
      else enterFaulted m .limitMismatch false (s.reach t)
    else s
  | none => s

def execSettleTimeExpiry (m : Mover) (s : State) : Host.Outcome State Fault Refusal := run (expireSettle m) s

/-- The 2 s of the recovery pause have passed; the pause ends with them if the halt frame has been confirmed, and
otherwise at its confirmation (R35). -/
def expirePause (m : Mover) (s : State) : State :=
  match (s.mover m).pause with
  | some p =>
    if (s.mover m).state = .recovering ∧ !p.elapsed then
      let s1 := (s.reach p.deadline).modMover m fun x => { x with pause := some { p with elapsed := true } }
      if p.confirmed then endPause m s1 else s1
    else s
  | none => s

def execRecoveryPauseEnd (m : Mover) (s : State) : Host.Outcome State Fault Refusal := run (expirePause m) s

end Sys2Proof.Machine
end

