-- ==== Sys2Proof/Machine/ConditionMonitor.lean ====
section
/-! DEFINITION. The commands of the Condition Monitor: SET_MODE, SET_SWIMMER, CLEAR_SWIMMER, CLEAR_ESTOP,
READ_CONDITIONS (R85, R93 to R95, R101), the loops and the mat (R53, R91, R92, R94). -/

namespace Sys2Proof.Machine

/-! ### The latch and the flag (R92, R94, R96) -/

/-- The emergency-stop latch becomes set: the movers in motion states or RECOVERING are halted, in the order of R92, and
the forces evaluated after them (R92, R102; log entry 56). A latch already set changes nothing. -/
def setLatch (s : State) : State :=
  if s.cond.latch then s
  else
    evaluateForces <|
      allMovers.foldl (fun s m => haltRequest m .permitEstop s) { s with cond := { s.cond with latch := true } }

/-- The unattended PLATFORM and WINDLASS motions halt (R96). -/
def haltUnattended (m : Mover) (s : State) : State :=
  if (s.mover m).attended then s else haltRequest m .permitSwimmer s

/-- The swimmer flag becomes set (R94), the forces evaluated after the halts (log entry 56). A flag already set changes
nothing. -/
def setSwimmer (s : State) : State :=
  if s.cond.swimmer then s
  else
    evaluateForces <|
      haltUnattended .windlass <| haltUnattended .platform <|
        raiseAll .swimmerChange { s with cond := { s.cond with swimmer := true } }

/-! ### SET_MODE (R85) -/

/-- The code of the first condition of check 7 that fails. -/
def State.notAtHome (s : State) : Option Word :=
  let hatch := s.movers.hatch
  let platform := s.movers.platform
  if !(hatch.state = .idle ∧ hatch.valid ∧ withinTolerance .hatch hatch.position 0
      ∧ s.seenMade .hatch s.cond.latchMade) then some 1
  else if !(platform.state = .idle ∧ platform.valid ∧ withinTolerance .platform platform.position 0) then some 2
  else if !(!isActive s.movers.windlass.state ∧ s.seenMade .windlass s.cond.anchorHome) then some 3
  else if s.cond.swimmer then some 4
  else none

/-- The lowest-numbered active mover. -/
def State.firstActive (s : State) : Option Mover := allMovers.find? fun m => isActive (s.mover m).state

/-- The holder code of the first claim held by a station other than `n`. -/
def State.otherHolder (s : State) (n : Station) : Option Word :=
  (allMovers.find? fun m =>
      match (s.claim m).holder with
      | .station k => k != n
      | .nobody | .deck => false).map
    fun m => wordOfNat (s.claim m).holder.code

/-- Checks 6 to 8. -/
def setModeChecks (s : State) (n : Station) (mode : VesselMode) : List (Option Denial) :=
  [s.firstActive.map fun m => (.busy, [wordOfNat (moverNumber m)]),
   if mode = .underway then s.notAtHome.map fun w => (.notAtHome, [w]) else none,
   if mode = .setup then (s.otherHolder n).map fun w => (.heldBy, [w]) else none]

/-- The new mode is set. A change discards a staging copy (R178). -/
def enterMode (mode : VesselMode) (s : State) : State :=
  evaluateForces (raiseAll .modeChange { s with cond := { s.cond with mode := mode }, staging := none })

def judgeSetMode (o : OrderFrame) (r : OrderRef) (s : State) : State :=
  if o.target ≠ 0 then refuse r (.badTarget, []) s
  else
    match (oneWord o).bind modeOf with
    | none => refuse r (.badOperand, []) s
    | some mode =>
      let code := wordOfNat mode.code
      judged r
        [needs s o.station fun p => p.mode,
         deny (s.blank && mode != .setup) .modeInvalid]
        (fun s =>
          if s.cond.mode = mode then done r [code] s
          else judged r (setModeChecks s o.station mode) (fun s => done r [code] (enterMode mode s)) s) s

def execSetMode (o : OrderFrame) (s : State) : Host.Outcome State Fault Refusal :=
  run (arrive codeSetMode o (judgeSetMode o)) s

/-! ### SET_SWIMMER, CLEAR_SWIMMER, CLEAR_ESTOP (R93 to R95) -/

/-- The checks of an order with target 0 and no operand words. -/
def bareChecks (o : OrderFrame) : List (Option Denial) :=
  [deny (o.target != 0) .badTarget, deny (!noWords o) .badOperand]

def judgeSetSwimmer (o : OrderFrame) (r : OrderRef) (s : State) : State :=
  judged r (bareChecks o ++ [deny (s.cond.mode == .underway) .modeInvalid])
    (fun s => done r [1] (setSwimmer s)) s

def execSetSwimmer (o : OrderFrame) (s : State) : Host.Outcome State Fault Refusal :=
  run (arrive codeSetSwimmer o (judgeSetSwimmer o)) s

def clearSwimmer (s : State) : State :=
  if s.cond.swimmer then
    evaluateForces (raiseAll .swimmerChange { s with cond := { s.cond with swimmer := false } })
  else s

def judgeClearSwimmer (o : OrderFrame) (r : OrderRef) (s : State) : State :=
  judged r
    (bareChecks o ++ [needs s o.station fun p => p.attend, deny s.cond.matOccupied .permitSwimmer])
    (fun s => done r [0] (clearSwimmer s)) s

def execClearSwimmer (o : OrderFrame) (s : State) : Host.Outcome State Fault Refusal :=
  run (arrive codeClearSwimmer o (judgeClearSwimmer o)) s

/-- Some loop is OPEN. -/
def State.anyLoopOpen (s : State) : Bool := s.cond.bowOpen || s.cond.sternOpen || s.cond.garageOpen

def clearEstop (s : State) : State :=
  if s.cond.latch then
    evaluateForces (raiseAll .estopChange { s with cond := { s.cond with latch := false } })
  else s

def judgeClearEstop (o : OrderFrame) (r : OrderRef) (s : State) : State :=
  judged r
    (bareChecks o ++ [needs s o.station fun p => p.mode, deny s.anyLoopOpen .permitEstop])
    (fun s => done r [0] (clearEstop s)) s

def execClearEstop (o : OrderFrame) (s : State) : Host.Outcome State Fault Refusal :=
  run (arrive codeClearEstop o (judgeClearEstop o)) s

/-! ### READ_CONDITIONS (R101) -/

def conditionWords (s : State) : List Word :=
  let c := s.cond
  [wordOfNat c.mode.code, flagWord c.swimmer, flagWord c.latch, flagWord c.bowOpen, flagWord c.sternOpen,
   flagWord c.garageOpen, flagWord c.matOccupied, s.switchWord .hatch c.hatchClosed, s.switchWord .hatch c.hatchOpen,
   s.switchWord .hatch c.latchMade, s.switchWord .platform c.stowed, s.switchWord .platform c.deckSwitch,
   s.switchWord .windlass c.anchorHome]

def judgeReadConditions (o : OrderFrame) (r : OrderRef) (s : State) : State :=
  judged r (bareChecks o) (done r (conditionWords s)) s

def execReadConditions (o : OrderFrame) (s : State) : Host.Outcome State Fault Refusal :=
  run (arrive codeReadConditions o (judgeReadConditions o)) s

/-! ### The loops (R91, R92) -/

def State.loopIsOpen (s : State) : Loop → Bool
  | .bow => s.cond.bowOpen | .stern => s.cond.sternOpen | .garage => s.cond.garageOpen

def State.setLoop (s : State) (l : Loop) (isOpen : Bool) : State :=
  { s with cond :=
      match l with
      | .bow => { s.cond with bowOpen := isOpen }
      | .stern => { s.cond with sternOpen := isOpen }
      | .garage => { s.cond with garageOpen := isOpen } }

/-- A loop becomes OPEN: ESTOP_CHANGE once, and the latch is set. -/
def openLoop (l : Loop) (s : State) : State :=
  if s.loopIsOpen l then s else setLatch (raiseAll .estopChange (s.setLoop l true))

def execLoopOpen (l : Loop) (s : State) : Host.Outcome State Fault Refusal := run (openLoop l) s

def closeLoop (l : Loop) (s : State) : State :=
  if s.loopIsOpen l then raiseAll .estopChange (s.setLoop l false) else s

def execLoopClosed (l : Loop) (s : State) : Host.Outcome State Fault Refusal := run (closeLoop l) s

/-! ### The mat (R53, R94) -/

def occupyMat (s : State) : State :=
  if s.cond.matOccupied then s else setSwimmer { s with cond := { s.cond with matOccupied := true } }

def execMatOccupied (s : State) : Host.Outcome State Fault Refusal := run occupyMat s

def execMatClear (s : State) : Host.Outcome State Fault Refusal :=
  run (fun s => { s with cond := { s.cond with matOccupied := false } }) s

end Sys2Proof.Machine
end

