-- ==== Sys2Proof/Machine/ConcurrenceUnit.lean ====
section
/-! DEFINITION. The commands of the Concurrence Unit: OPEN_WATCH, CLOSE_WATCH, CONCUR, DECLINE, LIST_HELD and
HOLD_EXPIRY (R106, R107, R112 to R115). -/

namespace Sys2Proof.Machine

/-! ### OPEN_WATCH, CLOSE_WATCH (R106, R107) -/

/-- A window target, 0 or 1, of the orderer: its window index. -/
def windowTarget (o : OrderFrame) : Option (Fin 6) :=
  match o.target.toNat with
  | 0 => some (windowIndex o.station false)
  | 1 => some (windowIndex o.station true)
  | _ => none

/-- The window the three operand words describe, OPEN. -/
def windowOperand (words : List Word) : Option Window :=
  match words with
  | [base, width, kind] =>
    if base.toNat < pointCount ∧ width.toNat ≤ 4 ∧ kind.toNat ≤ 1 ∧ base.toNat % 2 ^ width.toNat = 0 then
      some ⟨true, base.toNat, width.toNat, kind.toNat == 1⟩
    else none
  | _ => none

/-- The window is closed first if it is OPEN, then set and opened (R106). -/
def openWindow (i : Fin 6) (w : Window) (s : State) : State :=
  let s1 := closeWindows [i] s
  { s1 with windows := s1.windows.set i w }

def judgeOpenWatch (o : OrderFrame) (r : OrderRef) (s : State) : State :=
  match windowTarget o with
  | none => refuse r (.badTarget, []) s
  | some i =>
    match windowOperand o.words with
    | none => refuse r (.badOperand, []) s
    | some w => done r [wordOfNat w.span, wordOfNat (s.releasedBy [i]).length] (openWindow i w s)

def execOpenWatch (o : OrderFrame) (s : State) : Host.Outcome State Fault Refusal :=
  run (arrive codeOpenWatch o (judgeOpenWatch o)) s

def judgeCloseWatch (o : OrderFrame) (r : OrderRef) (s : State) : State :=
  match windowTarget o with
  | none => refuse r (.badTarget, []) s
  | some i =>
    judged r [deny (!noWords o) .badOperand]
      (fun s => done r [wordOfNat (s.releasedBy [i]).length] (closeWindows [i] s)) s

def execCloseWatch (o : OrderFrame) (s : State) : Host.Outcome State Fault Refusal :=
  run (arrive codeCloseWatch o (judgeCloseWatch o)) s

/-! ### CONCUR, DECLINE (R112, R113) -/

/-- The entry a hold number names. -/
def State.heldEntry? (s : State) (target : Word) : Option HeldEntry :=
  s.held.find? fun h => h.hold.toNat == target.toNat

/-- The windows of a station, as marks. -/
def ownMarks (n : Station) : BitVec 6 := markOf (windowIndex n false) ||| markOf (windowIndex n true)

/-- The checks CONCUR and DECLINE make past the target. -/
def concurChecks (o : OrderFrame) (h : HeldEntry) : List (Option Denial) :=
  [deny (!noWords o) .badOperand, deny ((h.marks &&& ownMarks o.station) == 0) .noAuthority]

/-- An entry leaves the list. -/
def dropHeld (hold : Byte) (s : State) : State := { s with held := s.held.filter fun h => h.hold != hold }

/-- The orderer's marks are removed; an entry left with none is released (R112). -/
def concurOn (o : OrderFrame) (r : OrderRef) (h : HeldEntry) (s : State) : State :=
  let marks := h.marks &&& ~~~(ownMarks o.station)
  let answered := done r [wordOfNat (markCount marks)]
  if marks = 0 then releaseHeld (answered (dropHeld h.hold s)) h
  else
    answered { s with held := s.held.map fun x => if x.hold == h.hold then { x with marks := marks } else x }

def judgeConcur (o : OrderFrame) (r : OrderRef) (s : State) : State :=
  match s.heldEntry? o.target with
  | none => refuse r (.badTarget, []) s
  | some h => judged r (concurChecks o h) (concurOn o r h) s

def execConcur (o : OrderFrame) (s : State) : Host.Outcome State Fault Refusal :=
  run (arrive codeConcur o (judgeConcur o)) s

/-- A held order ends without being applied: its entry leaves, HOLD_RESOLVED is raised in the orderer, and the order
is refused (R113, R114). -/
def endHeld (h : HeldEntry) (why : Reason) (s : State) : State :=
  refuse h.order (why, []) (raise .holdResolved h.order.station (dropHeld h.hold s))

def judgeDecline (o : OrderFrame) (r : OrderRef) (s : State) : State :=
  match s.heldEntry? o.target with
  | none => refuse r (.badTarget, []) s
  | some h => judged r (concurChecks o h) (fun s => done r [] (endHeld h .declined s)) s

def execDecline (o : OrderFrame) (s : State) : Host.Outcome State Fault Refusal :=
  run (arrive codeDecline o (judgeDecline o)) s

/-! ### LIST_HELD (R115) -/

/-- A word of two bytes. -/
def pairWord (hi lo : Byte) : Word := hi ++ lo

def stationByte (n : Station) : Byte := BitVec.ofNat 8 (stationNumber n)

/-- The three words of an entry in the whole list. -/
def heldWords (h : HeldEntry) : List Word :=
  [pairWord h.hold h.what.code, pairWord (stationByte h.order.station) (h.marks.setWidth 8), wordOfNat h.what.target]

/-- Words 6 and 7 of one entry. -/
def heldOperands (h : HeldEntry) : List Word :=
  match h.what with
  | .setPoint _ level fade => [wordOf level, wordOf fade]
  | .recall _ _ => [wordOfNat h.judged, 0]

/-- The time left to a deadline, in tenths of a second, rounded up. -/
def tenthsLeft (now deadline : Nat) : Nat := (deadline - now + 99) / 100

/-- The nine words of one entry. -/
def heldDetail (now : Nat) (h : HeldEntry) : List Word :=
  [h.hold.setWidth 16, wordOfNat (stationNumber h.order.station), h.order.tag.setWidth 16, h.what.code.setWidth 16,
    wordOfNat h.what.target] ++ heldOperands h ++ [h.marks.setWidth 16, wordOfNat (tenthsLeft now h.deadline)]

def judgeListHeld (o : OrderFrame) (r : OrderRef) (s : State) : State :=
  if o.target ≠ 0 then refuse r (.badTarget, []) s
  else
    match o.words with
    | [] => done r (s.held.flatMap heldWords) s
    | [w] =>
      match s.heldEntry? w with
      | some h => done r (heldDetail s.now h) s
      | none => refuse r (.badOperand, []) s
    | _ => refuse r (.badOperand, []) s

def execListHeld (o : OrderFrame) (s : State) : Host.Outcome State Fault Refusal :=
  run (arrive codeListHeld o (judgeListHeld o)) s

/-! ### HOLD_EXPIRY (R114) -/

def expireHeld (hold : Byte) (s : State) : State :=
  match s.held.find? fun h => h.hold == hold with
  | some h => endHeld h .holdExpired (s.reach h.deadline)
  | none => s

def execHoldExpiry (hold : Byte) (s : State) : Host.Outcome State Fault Refusal := run (expireHeld hold) s

end Sys2Proof.Machine
end

