-- ==== Sys2Proof/Machine/FieldLink.lean ====
section
/-! DEFINITION. The commands of the Field Link Controller and the Channel Map: FENCE, READ_MODULE (R138, R140),
ASSIGN_SPARE, RELEASE_SPARE, TERMINAL_WRITE (R146, R149, R151), and the events of the field link (R123, R126, R129 to
R131, R135 to R137). -/

namespace Sys2Proof.Machine

/-! ### FENCE (R138) -/

/-- A frame that carries a write. -/
def QueueFrame.carriesWrite (f : QueueFrame) : Bool := !f.isPoll

/-- The points that carry the write-pending mark. -/
def State.pendingPoints (s : State) : List Nat :=
  s.pointNumbers.filter fun p =>
    match s.writable? p with
    | some e => e.writePending
    | none => false

/-- The three steps of R138. Its completion, at once or later, is R139's (`finish`). -/
def takeFence (r : OrderRef) (s : State) : State :=
  let s1 := closeAllOpen s
  { s1 with
    fences := s1.fences ++ [⟨r, s1.pendingPoints, 0⟩]
    queue := s1.queue.map fun f => if f.carriesWrite then addMarks [r.serial] f else f }

def judgeFence (o : OrderFrame) (r : OrderRef) (s : State) : State := judged r (bareChecks o) (takeFence r) s

def execFence (o : OrderFrame) (s : State) : Host.Outcome State Fault Refusal :=
  run (arrive codeFence o (judgeFence o)) s

/-! ### ASSIGN_SPARE (R146) -/

/-- The lowest configured point whose primary binding this is. -/
def State.primaryOf (s : State) (b : Binding) : Option Nat := (s.pointsBoundTo b).head?

/-- Check 5: the data word is the entry's failed binding. -/
def alreadyMapped (l : List SubstEntry) (failed : Binding) : Option Denial :=
  (l.find? fun e => (e.active && e.failed == failed) || e.spare == failed).map
    fun e => (.alreadyMapped, [wordOfNat e.failed.code])

/-- Check 6: the entry of the same failed binding does not count as another. -/
def spareTaken (l : List SubstEntry) (failed spare : Binding) : Option Denial :=
  (l.find? fun e => e.failed != failed && (e.failed == spare || e.spare == spare)).map
    fun e => (.spareTaken, [wordOfNat e.failed.code])

/-- Check 7. -/
def spareInUse (s : State) (spare : Binding) : Option Denial :=
  (s.primaryOf spare).map fun p => (.spareInUse, [wordOfNat p])

/-- Check 8. -/
def mapFull (l : List SubstEntry) (failed : Binding) : Option Denial :=
  deny (decide (mapCapacity ≤ l.length) && !(l.any fun e => !e.active && e.failed == failed)) .mapFull

/-- A VOID entry of the failed binding takes the new spare; otherwise a new entry is added. -/
def putSpare (l : List SubstEntry) (failed spare : Binding) : List SubstEntry :=
  if l.any fun e => e.failed == failed then
    l.map fun e => if e.failed == failed then ⟨failed, spare, true⟩ else e
  else l ++ [⟨failed, spare, true⟩]

def assignSpare (r : OrderRef) (failed spare : Binding) (s : State) : State :=
  done r [wordOfNat (s.pointsBoundTo failed).length]
    (movePoints failed failed { s with substs := putSpare s.substs failed spare })

def judgeAssignSpare (o : OrderFrame) (r : OrderRef) (s : State) : State :=
  if o.target ≠ 0 then refuse r (.badTarget, []) s
  else
    match o.words with
    | [a, b] =>
      match bindingOf a, bindingOf b with
      | some failed, some spare =>
        judged r
          [needs s o.station fun p => p.maint,
           deny (spare == failed) .selfSpare,
           alreadyMapped s.substs failed,
           spareTaken s.substs failed spare,
           spareInUse s spare,
           mapFull s.substs failed]
          (assignSpare r failed spare) s
      | _, _ => refuse r (.badOperand, []) s
    | _ => refuse r (.badOperand, []) s

def execAssignSpare (o : OrderFrame) (s : State) : Host.Outcome State Fault Refusal :=
  run (arrive codeAssignSpare o (judgeAssignSpare o)) s

/-! ### RELEASE_SPARE (R149) -/

/-- The entry of a failed binding. -/
def State.substOf (s : State) (failed : Binding) : Option SubstEntry := s.substs.find? fun e => e.failed == failed

def releaseSpare (r : OrderRef) (e : SubstEntry) (s : State) : State :=
  let s1 := { s with substs := s.substs.filter fun x => x.failed != e.failed }
  if e.active then
    done r [wordOfNat (s.pointsBoundTo e.failed).length] (movePoints e.failed e.spare s1)
  else done r [0] s1

def judgeReleaseSpare (o : OrderFrame) (r : OrderRef) (s : State) : State :=
  if o.target ≠ 0 then refuse r (.badTarget, []) s
  else
    match ((oneWord o).bind bindingOf).bind s.substOf with
    | none => refuse r (.badOperand, []) s
    | some e => judged r [needs s o.station fun p => p.maint] (releaseSpare r e) s

def execReleaseSpare (o : OrderFrame) (s : State) : Host.Outcome State Fault Refusal :=
  run (arrive codeReleaseSpare o (judgeReleaseSpare o)) s

/-! ### TERMINAL_WRITE (R151) -/

def spareDirect (l : List SubstEntry) (b : Binding) : Option Denial :=
  (l.find? fun e => e.active && e.spare == b).map fun e => (.spareDirect, [wordOfNat e.failed.code])

def judgeTerminalWrite (o : OrderFrame) (r : OrderRef) (s : State) : State :=
  match bindingOf o.target with
  | none => refuse r (.badTarget, []) s
  | some b =>
    match oneWord o with
    | none => refuse r (.badOperand, []) s
    | some w =>
      judged r
        [deny (!decide (0 ≤ w.toInt ∧ w.toInt ≤ 1000)) .badOperand,
         needs s o.station fun p => p.maint,
         spareDirect s.substs b]
        (handFrame (QueueFrame.fresh b.module (.terminalWrite b.terminal w.toInt r))) s

def execTerminalWrite (o : OrderFrame) (s : State) : Host.Outcome State Fault Refusal :=
  run (arrive codeTerminalWrite o (judgeTerminalWrite o)) s

/-! ### READ_MODULE (R140) -/

def moduleWords (s : State) (k : Fin 32) : List Word :=
  let kr := s.module k
  [flagWord !kr.present, wordOfNat kr.score, flagWord !kr.steady, wordOfNat (s.inFlightCount k),
    wordOfNat (s.queue.filter fun f => f.module == k && !f.stage.isInFlight).length, flagWord (s.inUse k), kr.failed]
    ++ match kr.snapshot with
      | some v => v.toList
      | none => List.replicate 16 (-1)

def judgeReadModule (o : OrderFrame) (r : OrderRef) (s : State) : State :=
  match moduleOf o.target with
  | none => refuse r (.badTarget, []) s
  | some k => judged r [deny (!noWords o) .badOperand] (done r (moduleWords s k)) s

def execReadModule (o : OrderFrame) (s : State) : Host.Outcome State Fault Refusal :=
  run (arrive codeReadModule o (judgeReadModule o)) s

/-! ### The link's events -/

def execFrameSend (s : State) : Host.Outcome State Fault Refusal := run sendNext s

def execTimelyReply (r : FieldReply) (s : State) : Host.Outcome State Fault Refusal := run (takeArrival r) s

def execLateReply (r : FieldReply) (s : State) : Host.Outcome State Fault Refusal := run (takeLateArrival r) s

/-- A reply whose bytes cannot be read, or whose check word is wrong, is discarded (R129; log entry 33). -/
def discardReply (bytes : List Byte) (s : State) : State :=
  match parseReply bytes with
  | some r => takeArrival r s
  | none => s

def execReplyDiscarded (bytes : List Byte) (s : State) : Host.Outcome State Fault Refusal := run (discardReply bytes) s

def execReplyDeadlineExpiry (k : Fin 32) (seq : Word) (s : State) : Host.Outcome State Fault Refusal :=
  run (deadlineExpires k seq) s

def execRoutinePollDue (k : Fin 32) (s : State) : Host.Outcome State Fault Refusal := run (routinePoll k) s

/-- A motion poll falls due 25 ms after the previous one was sent (R136). -/
def motionPollFalls (m : Mover) (s : State) : State :=
  match (s.mover m).poll with
  | .waiting t =>
    if isMotion (s.mover m).state then (s.reach t).modMover m fun r => { r with poll := .due } else s
  | .idle | .due => s

def execMotionPollDue (m : Mover) (s : State) : Host.Outcome State Fault Refusal := run (motionPollFalls m) s

def execReturnPollDue (k : Fin 32) (s : State) : Host.Outcome State Fault Refusal := run (returnPoll k) s

/-- The idle window of the module's open frame expires (R123). -/
def expireMerge (k : Fin 32) (s : State) : State :=
  match s.queue.find? fun f => f.module == k && f.isOpen with
  | some f => closeOpen k (s.reach f.mergeAt)
  | none => s

def execMergeWindowExpiry (k : Fin 32) (s : State) : Host.Outcome State Fault Refusal := run (expireMerge k) s

end Sys2Proof.Machine
end

