-- ==== Sys2Proof/Machine/ConfigurationStore.lean ====
section
/-! DEFINITION. The commands of the Configuration Store: LOAD_CONFIG with its commits (R22, R48, R104, R153, R178, R179)
and LOCK_CONFIG (R180). -/

namespace Sys2Proof.Machine

/-! ### Sections (Table 10-4) -/

/-- The eight sections, in the order of their codes. -/
inductive Section where
  | point | zone | scene | force | profile | mover | substitution | resume
deriving DecidableEq, Repr

def sectionOf (w : Word) : Option Section :=
  match w.toNat with
  | 1 => some .point | 2 => some .zone | 3 => some .scene | 4 => some .force | 5 => some .profile | 6 => some .mover
  | 7 => some .substitution | 8 => some .resume | _ => none

def Section.code : Section → Nat
  | .point => 1 | .zone => 2 | .scene => 3 | .force => 4 | .profile => 5 | .mover => 6 | .substitution => 7
  | .resume => 8

/-- Words in a record. -/
def Section.width : Section → Nat
  | .point => 3 | .zone => 4 | .scene => 5 | .force => 3 | .profile => 3 | .mover => 5 | .substitution => 3
  | .resume => 1

/-- The largest count of records. -/
def Section.largest : Section → Nat
  | .point => 512 | .zone => 48 | .scene => 3072 | .force => 16 | .profile => 3 | .mover => 1 | .substitution => 16
  | .resume => 1

/-- The sections with an exact count (R179). -/
def Section.isExact : Section → Bool
  | .profile | .mover | .resume => true
  | .point | .zone | .scene | .force | .substitution => false

/-- Words cut into records of a width; `fuel` is at least the number of words. -/
def cutRecords (width : Nat) : Nat → List Word → List (List Word)
  | 0, _ => []
  | fuel + 1, l => if l.isEmpty then [] else l.take width :: cutRecords width fuel (l.drop width)

/-- The words after the part index as whole records. -/
def recordsOf (sec : Section) (words : List Word) : Option (List (List Word)) :=
  if words.length % sec.width = 0 then some (cutRecords sec.width words.length words) else none

/-! ### Reading records -/

/-- A commit judged record by record: the value of each, or the index of the first that fails with its refusal. -/
inductive Judgement (α : Type) where
  | passed (l : List α)
  | failed (index : Nat) (why : Reason) (about : Option Subject)

/-- One record's failure: the reason, and the subject of the fault record. -/
abbrev RecordFault := Reason × Option Subject

def badRecord : RecordFault := (.badOperand, none)

/-- Records judged in order, each against the values of those before it. -/
def judgeRecords {α : Type} (read : List α → List Word → Except RecordFault α) :
    Nat → List α → List (List Word) → Judgement α
  | _, before, [] => .passed before
  | k, before, w :: rest =>
    match read before w with
    | .ok x => judgeRecords read (k + 1) (before ++ [x]) rest
    | .error (why, about) => .failed k why about

def kindOf (w : Word) : Option PointKind :=
  match w.toNat with
  | 0 => some .unconfigured | 1 => some .switched | 2 => some .dimmed | 3 => some .shade | 4 => some .climate
  | 5 => some .sense | _ => none

/-- The configured fields of a Point Table entry. -/
structure PointRecord where
  kind    : PointKind
  zone    : Nat
  binding : Binding
deriving DecidableEq, Repr

/-- A point record (R179, R153). -/
def readPointRecord (substs : List SubstEntry) (_ : List PointRecord) (w : List Word) :
    Except RecordFault PointRecord :=
  match w with
  | [k, z, b] =>
    match kindOf k, bindingOf b with
    | some kind, some binding =>
      if zoneCount ≤ z.toNat then .error badRecord
      else if kind ≠ .unconfigured ∧ (substs.any fun e => e.spare == binding) then
        .error (.spareInUse, some ⟨.binding, binding.code⟩)
      else .ok ⟨kind, z.toNat, binding⟩
    | _, _ => .error badRecord
  | _ => .error badRecord

/-- A flag word, 0 or 1. -/
def flagOf (w : Word) : Option Bool := if w = 0 then some false else if w = 1 then some true else none

/-- A scene number 0 to 7, or −1 for absent. -/
def sceneNumberOf (w : Word) : Option (Option Nat) :=
  if w = -1 then some none else if w.toNat ≤ 7 then some (some w.toNat) else none

def readZoneRecord (_ : List ZoneRecord) (w : List Word) : Except RecordFault ZoneRecord :=
  match w with
  | [e, n, d, p] =>
    match flagOf e, flagOf n, sceneNumberOf d, sceneNumberOf p with
    | some ext, some nav, some dark, some power => .ok ⟨ext, nav, dark, power⟩
    | _, _, _, _ => .error badRecord
  | _ => .error badRecord

/-- A scene item with its key. -/
structure SceneLine where
  zone  : Nat
  scene : Nat
  item  : SceneItem
deriving DecidableEq, Repr

/-- Items of each key gathered in record order. -/
def gatherScene (l : List SceneRecord) (x : SceneLine) : List SceneRecord :=
  if l.any fun r => r.zone == x.zone && r.scene == x.scene then
    l.map fun r => if r.zone == x.zone && r.scene == x.scene then { r with items := r.items ++ [x.item] } else r
  else l ++ [⟨x.zone, x.scene, [x.item]⟩]

def gatherScenes (l : List SceneLine) : List SceneRecord := l.foldl gatherScene []

/-- A scene record: its item meets R15 after the items of its key before it, and the keys stay within 192. -/
def readSceneRecord (s : State) (before : List SceneLine) (w : List Word) : Except RecordFault SceneLine :=
  match w with
  | [z, n, p, level, fade] =>
    let mine := before.filter fun x => x.zone == z.toNat && x.scene == n.toNat
    let item : SceneItem := ⟨p.toNat, level.toInt, fade.toInt⟩
    if zoneCount ≤ z.toNat ∨ 8 ≤ n.toNat then .error badRecord
    else if !s.itemAccepted z.toNat (mine.map fun x => x.item) item then .error badRecord
    else if mine.isEmpty ∧ sceneCapacity ≤ (gatherScenes before).length then .error badRecord
    else .ok ⟨z.toNat, n.toNat, item⟩
  | _ => .error badRecord

def conditionOf (w : Word) : Option ForceCondition :=
  match w.toNat with
  | 0 => some .platformBelowDeck | 1 => some .moverActive | 2 => some .estop | 3 => some .swimmer
  | 4 => some .underway | 5 => some .hatchOpen | _ => none

def readForceRecord (s : State) (_ : List ForceEntry) (w : List Word) : Except RecordFault ForceEntry :=
  match w with
  | [c, p, level] =>
    match conditionOf c, s.writable? p.toNat with
    | some condition, some e =>
      if levelValid e.kind level.toInt then .ok ⟨condition, p.toNat, level.toInt⟩ else .error badRecord
    | _, _ => .error badRecord
  | _ => .error badRecord

/-- A profile record: the station and its profile; each station appears once. -/
def readProfileRecord (before : List (Station × Profile)) (w : List Word) : Except RecordFault (Station × Profile) :=
  match w with
  | [n, a, m] =>
    match stationOf n.toNat with
    | some st =>
      if before.any (fun x => x.1 == st) ∨ 16 ≤ a.toNat ∨ 8 ≤ m.toNat then .error badRecord
      else
        .ok (st, ⟨a.getLsbD 0, a.getLsbD 1, a.getLsbD 2, a.getLsbD 3, ⟨m.getLsbD 0, m.getLsbD 1, m.getLsbD 2⟩⟩)
    | none => .error badRecord
  | _ => .error badRecord

/-- The movers whose module new parameters change. -/
def changedModules (old new : MoverParams) : List Mover :=
  allMovers.filter fun m => old.modules.get m != new.modules.get m

/-- The mover record (R48): figures in range, modules distinct, and no active machine's module changed. -/
def readMoverRecord (s : State) (_ : List MoverParams) (w : List Word) : Except RecordFault MoverParams :=
  match w with
  | [a, b, c, deck, chain] =>
    match moduleOf a, moduleOf b, moduleOf c with
    | some h, some p, some x =>
      let new : MoverParams := ⟨⟨h, p, x⟩, deck.toInt, chain.toInt⟩
      if h = p ∨ h = x ∨ p = x ∨ ¬(200 ≤ deck.toInt ∧ deck.toInt ≤ 800 ∧ 100 ≤ chain.toInt ∧ chain.toInt ≤ 4000) then
        .error badRecord
      else if (changedModules s.params new).any fun m => isActive (s.mover m).state then .error (.busy, none)
      else .ok new
    | _, _, _ => .error badRecord
  | _ => .error badRecord

/-- A substitution record, judged with checks 4 to 7 of R146 against the entries before it (R153); two entries of one
failed binding would break the law of spares (R145; log entry 24). -/
def readSubstRecord (s : State) (before : List SubstEntry) (w : List Word) : Except RecordFault SubstEntry :=
  match w with
  | [a, b, st] =>
    match bindingOf a, bindingOf b, flagOf st with
    | some failed, some spare, some isVoid =>
      let about : Option Subject := some ⟨.binding, failed.code⟩
      if spare = failed then .error (.selfSpare, about)
      else if before.any fun e => e.failed == failed || e.spare == failed then .error (.alreadyMapped, about)
      else if (spareTaken before failed spare).isSome then .error (.spareTaken, about)
      else if (s.primaryOf spare).isSome then .error (.spareInUse, about)
      else .ok ⟨failed, spare, !isVoid⟩
    | _, _, _ => .error badRecord
  | _ => .error badRecord

def readResumeRecord (_ : List ResumePolicy) (w : List Word) : Except RecordFault ResumePolicy :=
  match w with
  | [p] => if p = 0 then .ok .restore else if p = 1 then .ok .dark else .error badRecord
  | _ => .error badRecord

/-! ### The effects of a commit -/

def blankEntry : PointEntry :=
  { kind := .unconfigured, zone := 0, binding := ⟨0, 0⟩, requested := 0, effective := 0, confirmed := none,
    delivery := .settled, writePending := false, pendingRewrite := false, lastWriter := .restart, lastFade := 0 }

/-- An entry set as at a restart under DARK (R21, R22), its effective level not yet computed: a SENSE point and an
unconfigured one start SETTLED, a writable one QUEUED with a pending write, or LOST on an ABSENT module. -/
def startEntry (p : PointRecord) (present : Bool) : PointEntry :=
  { kind := p.kind, zone := p.zone, binding := p.binding, requested := darkLevel p.kind, effective := darkLevel p.kind,
    confirmed := none
    delivery :=
      if p.kind = .unconfigured then .settled
      else if !present then .lost
      else if p.kind = .sense then .settled
      else .queued
    writePending := p.kind.writable && present, pendingRewrite := false, lastWriter := .restart, lastFade := 0 }

def PointEntry.record (e : PointEntry) : PointRecord := ⟨e.kind, e.zone, e.binding⟩

/-- The three configured fields differ. Two unconfigured entries count as one another. -/
def entryChanges (e : PointEntry) (p : PointRecord) : Bool := e.record != p

/-- The item of a changed entry is frozen: at the level it carried, or else at the old effective level (R125). -/
def freezeItem (p : Nat) (level : Int) (i : Item) : Item :=
  if i.point == p && i.tie == .live then { i with tie := .frozen, level := some (i.level.getD level) } else i

/-- The old entry leaves: its items freeze and its pending mark is cleared without a loss (R22, R139). -/
def retireEntry (p : Nat) (s : State) : State :=
  match s.points[p]? with
  | none => s
  | some e =>
    clearPending p false
      { s with queue := s.queue.map fun f => f.withItems (f.items.map (freezeItem p e.effective)) }

/-- The entry at index `p` of the new table. -/
def newEntry (s : State) (old : Option PointEntry) (p : PointRecord) : PointEntry :=
  let start := startEntry p (s.module (inForce s.substs p.binding).module).present
  match old with
  | some e => if entryChanges e p then start else e
  | none => start

/-- The numbers of the entries a point section changes. -/
def changedPoints (old : List PointEntry) (new : List PointRecord) : List Nat :=
  (List.range (max old.length new.length)).filter fun p =>
    match old[p]?, new[p]? with
    | some e, some r => entryChanges e r
    | some _, none => true
    | none, some _ => true
    | none, none => false

/-- The effective level of a fresh entry, against the forces that stand (R4, R21). -/
def startLevel (s : State) (p : Nat) : State :=
  match s.writable? p with
  | some e => s.modPoint p fun x => { x with effective := s.effectiveLevel p e }
  | none => s

/-- R22: the entries that change leave and start anew; pending writes are placed at once as room allows (log entry
38). -/
def commitPoints (l : List PointRecord) (s : State) : State :=
  let changed := changedPoints s.points l
  let s1 := changed.foldl (fun s p => retireEntry p s) s
  let s2 := { s1 with points := l.mapIdx fun i r => newEntry s1 s1.points[i]? r, roomFreed := true }
  changed.foldl startLevel s2

def commitForces (l : List ForceEntry) (s : State) : State :=
  let named := (s.forces ++ l).map fun f => f.point
  named.foldl (fun s p => recomputeForced p s) { s with forces := l }

def commitProfiles (l : List (Station × Profile)) (s : State) : State :=
  { s with profiles := l.foldl (fun t x => t.set x.2 x.1) s.profiles, blank := false }

/-- The machine's switches take the kept value not made, and are not seen until its new module replies (R104). -/
def forgetSwitches (m : Mover) (c : ConditionSet) : ConditionSet :=
  let seen := c.seen.set false m
  match m with
  | .hatch => { c with hatchClosed := false, hatchOpen := false, latchMade := false, seen := seen }
  | .platform => { c with stowed := false, deckSwitch := false, seen := seen }
  | .windlass => { c with anchorHome := false, seen := seen }

/-- A resting mover whose module changes (R48). -/
def changeModule (m : Mover) (s : State) : State :=
  let s1 := s.modMover m fun r => { r.enter .unhomed with valid := false, attempts := 0 }
  { s1 with cond := forgetSwitches m s1.cond, haltSlots := s1.haltSlots.set none m }

/-- R48, R104: the figures take effect; the forces and the interlocks that read the switches follow at the load, in an
order that is the model's choice (log entry 56). -/
def commitMovers (new : MoverParams) (s : State) : State :=
  let changed := changedModules s.params new
  let s1 := changed.foldl (fun s m => changeModule m s) { s with params := new }
  changed.foldl (fun s m => retestPartner m s) (evaluateForces s1)

/-- R153: the map is replaced, and each point whose binding in force changes is moved, in ascending order. -/
def commitSubsts (l : List SubstEntry) (s : State) : State :=
  s.pointNumbers.foldl
    (fun t p =>
      match s.point? p with
      | some e => if inForce s.substs e.binding = inForce l e.binding then t else movePoint p (inForce s.substs e.binding) t
      | none => t)
    { s with substs := l }

/-! ### Commit and staging (R178, R179) -/

/-- A judged commit: refused with the index of the failing record, or carried out and answered with the count. -/
def settleCommit {α : Type} (r : OrderRef) (j : Judgement α) (effect : List α → State → State) (s : State) : State :=
  match j with
  | .failed k why about => answerAbout about r .refused why [wordOfNat k] s
  | .passed l => done r [wordOfNat l.length] (effect l s)

/-- R179 for a copy with the section's records. -/
def commitSection (r : OrderRef) (sec : Section) (recs : List (List Word)) (s : State) : State :=
  match sec with
  | .point => settleCommit r (judgeRecords (readPointRecord s.substs) 0 [] recs) commitPoints s
  | .zone => settleCommit r (judgeRecords readZoneRecord 0 [] recs) (fun l s => { s with zones := l }) s
  | .scene =>
    settleCommit r (judgeRecords (readSceneRecord s) 0 [] recs) (fun l s => { s with scenes := gatherScenes l }) s
  | .force => settleCommit r (judgeRecords (readForceRecord s) 0 [] recs) commitForces s
  | .profile => settleCommit r (judgeRecords readProfileRecord 0 [] recs) commitProfiles s
  | .mover =>
    settleCommit r (judgeRecords (readMoverRecord s) 0 [] recs) (fun l s => l.foldl (fun s x => commitMovers x s) s) s
  | .substitution => settleCommit r (judgeRecords (readSubstRecord s) 0 [] recs) commitSubsts s
  | .resume =>
    settleCommit r (judgeRecords readResumeRecord 0 [] recs)
      (fun l s => l.foldl (fun s x => { s with resume := x }) s) s

/-- The orderer's staging copy of a section. -/
def State.copyOf (s : State) (n : Station) (sec : Section) : Option (List (List Word)) :=
  match s.staging with
  | some c => if c.station = n ∧ c.section_ = sec.code then some c.records else none
  | none => none

/-- A commit discards the copy, whether it succeeds or is refused; without the section's copy, or with a wrong exact
count, it is refused with −1 (R179; log entry 23). -/
def takeCommit (n : Station) (r : OrderRef) (sec : Section) (s : State) : State :=
  let s1 := { s with staging := none }
  match s.copyOf n sec with
  | none => refuse r (.badOperand, [-1]) s1
  | some recs =>
    if sec.isExact ∧ recs.length ≠ sec.largest then refuse r (.badOperand, [-1]) s1
    else commitSection r sec recs s1

/-- A part is staged: index 0 begins a new copy, the copy's count appends to it (R178). -/
def takePart (n : Station) (r : OrderRef) (sec : Section) (index : Word) (recs : List (List Word)) (s : State) :
    State :=
  let stage := fun base : List (List Word) =>
    let all := base ++ recs
    if sec.largest < all.length then refuse r (.badOperand, []) s
    else done r [wordOfNat all.length] { s with staging := some ⟨n, sec.code, all⟩ }
  if index = 0 then stage []
  else
    match s.copyOf n sec with
    | some base => if index.toNat = base.length then stage base else refuse r (.badOperand, []) s
    | none => refuse r (.badOperand, []) s

/-- Checks 3 to 6 of R178. -/
def loadChecks (s : State) (n : Station) : List (Option Denial) :=
  [deny (s.cond.mode != .setup) .modeInvalid,
   needs s n fun p => p.maint,
   deny s.locked .configLocked,
   deny (match s.staging with | some c => c.station != n | none => false) .busy]

def judgeLoadConfig (o : OrderFrame) (r : OrderRef) (s : State) : State :=
  match sectionOf o.target with
  | none => refuse r (.badTarget, []) s
  | some sec =>
    match o.words with
    | [] => refuse r (.badOperand, []) s
    | index :: rest =>
      match recordsOf sec rest with
      | none => refuse r (.badOperand, []) s
      | some recs =>
        if index = -1 ∧ !recs.isEmpty then refuse r (.badOperand, []) s
        else
          judged r (loadChecks s o.station)
            (if index = -1 then takeCommit o.station r sec else takePart o.station r sec index recs) s

def execLoadConfig (o : OrderFrame) (s : State) : Host.Outcome State Fault Refusal :=
  run (arrive codeLoadConfig o (judgeLoadConfig o)) s

/-! ### LOCK_CONFIG (R180) -/

def judgeLockConfig (o : OrderFrame) (r : OrderRef) (s : State) : State :=
  judged r (bareChecks o ++ [needs s o.station fun p => p.maint])
    (fun s => done r [] { s with locked := true, staging := none }) s

def execLockConfig (o : OrderFrame) (s : State) : Host.Outcome State Fault Refusal :=
  run (arrive codeLockConfig o (judgeLockConfig o)) s

end Sys2Proof.Machine
end

