-- ==== Sys2Proof/Machine/StationPorts.lean ====
section
/-! DEFINITION. The commands of the Station Ports: READ_FAULT, READ_EVENTS, ACK_EVENTS, SET_ENABLES (R172 to R174,
R176), the receiver (R159, R160), the sending of replies (R167), and attach and detach (R155 to R157, R186). -/

namespace Sys2Proof.Machine

/-! ### READ_FAULT (R176) -/

def faultWords (f : FaultRecord) : List Word :=
  [wordOfNat f.cls.code, f.code.setWidth 16, wordOfNat f.subjectKind.code, wordOfNat f.subject,
   flagWord f.positionValid, wordOf f.position]

def judgeReadFault (o : OrderFrame) (r : OrderRef) (s : State) : State :=
  judged r (bareChecks o)
    (fun s =>
      done r (faultWords (s.station o.station).fault)
        (s.modStation o.station fun x => { x with fault := FaultRecord.none })) s

def execReadFault (o : OrderFrame) (s : State) : Host.Outcome State Fault Refusal :=
  run (arrive codeReadFault o (judgeReadFault o)) s

/-! ### READ_EVENTS (R172) -/

/-- The two words of a report (R172). -/
def reportWords (x : Report) : List Word :=
  [wordOfNat (2048 * stationNumber x.orderer + (if x.isZone then 1024 else 0) + x.number), wordOf x.value]

def eventReply (r : StationRecord) : List Word :=
  eventWords r.status ++ eventWords r.enable ++ [wordOfNat r.reports.length] ++ r.reports.flatMap reportWords

def judgeReadEvents (o : OrderFrame) (r : OrderRef) (s : State) : State :=
  judged r (bareChecks o) (done r (eventReply (s.station o.station))) s

def execReadEvents (o : OrderFrame) (s : State) : Host.Outcome State Fault Refusal :=
  run (arrive codeReadEvents o (judgeReadEvents o)) s

/-! ### ACK_EVENTS, SET_ENABLES (R173, R174) -/

/-- An event set is carried in exactly two operand words. -/
def setOperand (o : OrderFrame) : Option EventSet :=
  match o.words with
  | [lo, hi] => some (eventSetOf lo hi)
  | _ => none

def acknowledge (e : EventSet) (r : StationRecord) : StationRecord :=
  { r with
    status := r.status &&& ~~~e
    reports := if (e &&& Event.watchReport.bit) = 0 then r.reports else [] }

def judgeAckEvents (o : OrderFrame) (r : OrderRef) (s : State) : State :=
  if o.target ≠ 0 then refuse r (.badTarget, []) s
  else
    match setOperand o with
    | none => refuse r (.badOperand, []) s
    | some e =>
      let s1 := s.modStation o.station (acknowledge e)
      done r (eventWords (s1.station o.station).status) s1

def execAckEvents (o : OrderFrame) (s : State) : Host.Outcome State Fault Refusal :=
  run (arrive codeAckEvents o (judgeAckEvents o)) s

def judgeSetEnables (o : OrderFrame) (r : OrderRef) (s : State) : State :=
  if o.target ≠ 0 then refuse r (.badTarget, []) s
  else
    match setOperand o with
    | none => refuse r (.badOperand, []) s
    | some e =>
      done r (eventWords (s.station o.station).status) (s.modStation o.station fun x => { x with enable := e })

def execSetEnables (o : OrderFrame) (s : State) : Host.Outcome State Fault Refusal :=
  run (arrive codeSetEnables o (judgeSetEnables o)) s

/-! ### An arrival of any code (R164, R165) -/

def judgeUnknown (_ : OrderFrame) (r : OrderRef) (s : State) : State := refuse r (.unknownOrder, []) s

/-- The owning block's judgement of a code of Table 9-4; any other code is refused UNKNOWN_ORDER (R165). -/
def judgeOf (code : Byte) : OrderFrame → OrderRef → State → State :=
  if code = codeReadPoint then judgeReadPoint
  else if code = codeSetPoint then judgeSetPoint
  else if code = codeRecallScene then judgeRecallScene
  else if code = codeStoreScene then judgeStoreScene
  else if code = codeEraseScene then judgeEraseScene
  else if code = codeClaim then judgeClaim
  else if code = codeRelease then judgeRelease
  else if code = codeRenew then judgeRenew
  else if code = codeMove then judgeMove
  else if code = codeHome then judgeHome
  else if code = codeHalt then judgeHalt
  else if code = codeReady then judgeReady
  else if code = codeResetMover then judgeResetMover
  else if code = codeSetChainOut then judgeSetChainOut
  else if code = codeSetMode then judgeSetMode
  else if code = codeSetSwimmer then judgeSetSwimmer
  else if code = codeClearSwimmer then judgeClearSwimmer
  else if code = codeClearEstop then judgeClearEstop
  else if code = codeReadConditions then judgeReadConditions
  else if code = codeOpenWatch then judgeOpenWatch
  else if code = codeCloseWatch then judgeCloseWatch
  else if code = codeConcur then judgeConcur
  else if code = codeDecline then judgeDecline
  else if code = codeListHeld then judgeListHeld
  else if code = codeFence then judgeFence
  else if code = codeAssignSpare then judgeAssignSpare
  else if code = codeReleaseSpare then judgeReleaseSpare
  else if code = codeTerminalWrite then judgeTerminalWrite
  else if code = codeReadModule then judgeReadModule
  else if code = codeReadFault then judgeReadFault
  else if code = codeReadEvents then judgeReadEvents
  else if code = codeAckEvents then judgeAckEvents
  else if code = codeSetEnables then judgeSetEnables
  else if code = codeLoadConfig then judgeLoadConfig
  else if code = codeLockConfig then judgeLockConfig
  else judgeUnknown

/-- An arrival: an order frame of this code. -/
def takeOrder (code : Byte) (o : OrderFrame) (s : State) : State := arrive code o (judgeOf code o) s

def execUnknownOrder (code : Byte) (o : OrderFrame) (s : State) : Host.Outcome State Fault Refusal :=
  run (takeOrder code o) s

/-! ### The receiver (R154, R159, R160) -/

def setReceiver (n : Station) (x : Receiver) (s : State) : State := s.modStation n fun r => { r with receiver := x }

/-- A frame, or a byte, is discarded: FRAME_ERROR is raised and the port hunts from the next byte. -/
def frameError (n : Station) (s : State) : State := raise .frameError n (setReceiver n .hunting s)

/-- A frame is complete (R160): an arrival when its bytes sum to zero. -/
def completeFrame (n : Station) (bytes : List Byte) (s : State) : State :=
  if byteSum bytes ≠ 0 then frameError n s
  else
    match parseOrder n bytes with
    | some (code, o) => takeOrder code o (setReceiver n .hunting s)
    | none => frameError n s

/-- One byte reaches the receiver of an attached port (R159); a detached one does not receive (R154). -/
def feed (n : Station) (b : Byte) (s : State) : State :=
  if !(s.station n).attached then s
  else
    match (s.station n).receiver with
    | .hunting => if b = orderStart then setReceiver n (.assembling []) s else frameError n s
    | .assembling [] => if lengthValid b then setReceiver n (.assembling [b]) s else frameError n s
    | .assembling bytes =>
      if frameComplete (bytes ++ [b]) then completeFrame n (bytes ++ [b]) s
      else setReceiver n (.assembling (bytes ++ [b])) s

/-- The port stands as after a start byte (log entry 6). -/
def afterStart (n : Station) (s : State) : State :=
  if (s.station n).attached then setReceiver n (.assembling []) s else s

def execCheckByteFailed (n : Station) (frame : List Byte) (s : State) : Host.Outcome State Fault Refusal :=
  run (fun s => frame.foldl (fun s b => feed n b s) (afterStart n s)) s

def execStrayByte (n : Station) (b : Byte) (s : State) : Host.Outcome State Fault Refusal := run (feed n b) s

def execInvalidLength (n : Station) (b : Byte) (s : State) : Host.Outcome State Fault Refusal :=
  run (fun s => feed n b (afterStart n s)) s

/-- The frame being received is ended by a gap or by a character error (R159); a port that hunts receives none. -/
def endFrame (n : Station) (s : State) : State :=
  match (s.station n).receiver with
  | .hunting => s
  | .assembling _ => if (s.station n).attached then frameError n s else s

def execFrameGap (n : Station) (s : State) : Host.Outcome State Fault Refusal := run (endFrame n) s

def execCharacterError (n : Station) (s : State) : Host.Outcome State Fault Refusal := run (endFrame n) s

/-! ### REPLY_SENT (R162, R163, R167) -/

/-- The oldest placed reply has been sent whole: its order's outstanding time ends, or the intake refusal leaves its
list. -/
def sendReply (n : Station) (s : State) : State :=
  match (s.station n).replies with
  | [] => s
  | p :: rest =>
    s.modStation n fun r =>
      { r with
        replies := rest
        tx := replyBytes p
        intake := r.intake.filter fun e => some e.serial != p.serial }

def execReplySent (n : Station) (s : State) : Host.Outcome State Fault Refusal := run (sendReply n) s

/-! ### STATION_ATTACH (R155, R186) -/

/-- A restart fault concerns a station: its holder item names it, or names none or LOCAL (R186). -/
def RestartFault.concerns (f : RestartFault) (n : Station) : Bool :=
  match f.holder with
  | .station k => k == n
  | .nobody | .deck => true

/-- The first restart fault that concerns the station, as a fault record (R186). -/
def State.supplyRecord (s : State) (n : Station) : Option FaultRecord :=
  allMovers.findSome? fun m =>
    match s.restartFaults.get m with
    | some f =>
      if f.concerns n then
        some ⟨.supply, BitVec.ofNat 8 f.code.code, .mover, moverNumber m, f.valid, f.position⟩
      else none
    | none => none

/-- What the Supply Monitor does at the first attach after a warm restart (R186). -/
def giveNotice (n : Station) (s : State) : State :=
  if s.keep.notices.get n then
    let s1 := raise .supplyRestored n s
    let s2 := match s.supplyRecord n with
      | some rec => writeFault n rec s1
      | none => s1
    { s2 with keep := { s2.keep with notices := s2.keep.notices.set false n } }
  else s

def attachStation (n : Station) (s : State) : State :=
  if (s.station n).attached then s else giveNotice n (s.modStation n fun r => { r with attached := true })

def execStationAttach (n : Station) (s : State) : Host.Outcome State Fault Refusal := run (attachStation n) s

/-! ### STATION_DETACH (R156) -/

/-- A reference of the station's is forgotten. -/
def forget (n : Station) (x : Option OrderRef) : Option OrderRef := x.filter fun r => r.station != n

/-- The Motion Controller forgets the station's deferred replies and strips its declaration (R46, R56). -/
def detachMotion (n : Station) (s : State) : State :=
  let s1 := allMovers.foldl
    (fun s m => s.modMover m fun r => { r with deferred := forget n r.deferred }) s
  { s1 with declaration := s1.declaration.map fun d => { d with order := forget n d.order } }

/-- The Claim Arbiter removes the station's wait entries (R79). -/
def leaveLists (n : Station) (s : State) : State :=
  allMovers.foldl (fun s m => s.modClaim m fun c => { c with waiters := c.waiters.filter fun r => r.station != n }) s

/-- The Claim Arbiter lets go of a claim the station holds (R79). -/
def detachClaim (n : Station) (s : State) (m : Mover) : State :=
  let c := s.claim m
  if c.holder ≠ .station n then s
  else
    match c.ending with
    | .notEnding =>
      if isActive (s.mover m).state then haltRequest m .noReason (setEnding m .detached s) else passClaim m s
    | .releasing | .expiring => s.modClaim m fun c => { c with ending := .detached, releaseOrder := none }
    | .detached | .revoked => s

/-- The Concurrence Unit discards the station's held orders and closes both its windows (R116). -/
def detachWindows (n : Station) (s : State) : State :=
  closeWindows [windowIndex n false, windowIndex n true]
    { s with held := s.held.filter fun h => h.order.station != n }

/-- The Field Link Controller removes the station's fences and their marks (R141). -/
def detachFences (n : Station) (s : State) : State :=
  let mine := (s.fences.filter fun f => f.order.station == n).map fun f => f.order.serial
  { s with
    fences := s.fences.filter fun f => f.order.station != n
    queue := s.queue.map fun f => { f with marks := f.marks.filter fun x => !mine.contains x } }

/-- The Configuration Store discards the station's staging copy (R178). -/
def detachStaging (n : Station) (s : State) : State :=
  { s with staging := s.staging.filter fun c => c.station != n }

/-- A detach (R156). The station's claims are let go in the order HATCH, PLATFORM, WINDLASS, and before its windows close
and held orders are released (log entry 45). -/
def detachStation (n : Station) (s : State) : State :=
  if !(s.station n).attached then s
  else
    let s1 := leaveLists n (detachMotion n (s.setStation n .detachedValues))
    detachStaging n (detachFences n (detachWindows n (allMovers.foldl (detachClaim n) s1)))

def execStationDetach (n : Station) (s : State) : Host.Outcome State Fault Refusal := run (detachStation n) s

end Sys2Proof.Machine
end

