-- ==== Sys2Proof/Machine/SupplyMonitor.lean ====
section
/-! DEFINITION. The commands of the Supply Monitor: MAIN_LOSS, RESET_ASSERT, MAIN_GOOD, RESET_RELEASE, KEEP_ALIVE_LOSS,
KEEP_ALIVE_UP (R181 to R183), and the bring-up (R184, R185) with what each block takes at a restart (R21, R46, R47,
R62, R81, R103, R117, R141, R157, R180). -/

namespace Sys2Proof.Machine

/-! ### Writing the Keep Records (R181, R182) -/

def keepOf (r : MoverRecord) (c : ClaimRecord) : KeepMover :=
  { active := isActive r.state, position := r.position, valid := r.valid,
    faulted := if r.state = .faulted then some r.lastFault else none, holder := c.holder }

/-- A writing fills every item and sets validity to VALID; it is skipped while the keep-alive supply is not good. -/
def writeKeep (s : State) : State :=
  if s.keepAliveGood then
    { s with keep :=
        { s.keep with
          valid := true
          movers :=
            ⟨keepOf s.movers.hatch s.claims.hatch, keepOf s.movers.platform s.claims.platform,
              keepOf s.movers.windlass s.claims.windlass⟩
          mode := s.cond.mode, swimmer := s.cond.swimmer, latch := s.cond.latch } }
  else s

/-- The Keep Records are written and every other block is held down (R182). -/
def holdDown (s : State) : State := { writeKeep s with heldDown := true }

/-! ### Stage 1: restore (R46, R47, R62, R81, R103, R180, R185) -/

/-- A Mover Record set from its Keep Record (R47). -/
def warmMover (k : KeepMover) : MoverRecord :=
  let cold := MoverRecord.cold
  if k.active then
    { cold with state := .unhomed, position := k.position, valid := false, lastFault := .powerLostInMotion }
  else
    match k.faulted with
    | some code => { cold with state := .faulted, position := k.position, valid := k.valid, lastFault := code }
    | none =>
      { cold with state := if k.valid then .idle else .unhomed, position := k.position, valid := k.valid }

/-- The restart fault of a mover (R185). -/
def restartFault (k : KeepMover) : Option RestartFault :=
  if k.active then some ⟨.powerLostInMotion, k.position, false, k.holder⟩
  else k.faulted.map fun code => ⟨code, k.position, k.valid, k.holder⟩

def PerMover.map {α β : Type} (f : α → β) (p : PerMover α) : PerMover β := ⟨f p.hatch, f p.platform, f p.windlass⟩

/-- A control held at the restart is not a press (R62). -/
def firstSeen (held : Bool) : ControlState := if held then .heldSinceRestart else .released

/-- The Condition Set after a restart (R103): a blank store gives SETUP (R86), an OPEN loop sets the latch, an OCCUPIED
mat the flag, and no switch has been seen. -/
def restoredConditions (keep : KeepRecords) (warm blank : Bool) (c : Contacts) : ConditionSet :=
  { mode := if blank then .setup else if warm then keep.mode else .berthed
    swimmer := (warm && keep.swimmer) || c.matMade
    latch := !warm || keep.latch || c.bowOpen || c.sternOpen || c.garageOpen
    bowOpen := c.bowOpen, sternOpen := c.sternOpen, garageOpen := c.garageOpen, matOccupied := c.matMade
    hatchClosed := false, hatchOpen := false, latchMade := false, stowed := false, deckSwitch := false,
    anchorHome := false, seen := ⟨false, false, false⟩ }

/-- The Keep Records are consumed (R181): a warm restart leaves every notice PENDING, a cold one every notice CLEAR
and the items cold. -/
def consumed (keep : KeepRecords) (warm : Bool) : KeepRecords :=
  if warm then { keep with valid := false, notices := ⟨true, true, true⟩ } else KeepRecords.cold false

def restore (c : Contacts) (s : State) : State :=
  let warm := s.keep.valid
  let movers : PerMover MoverRecord :=
    if warm then PerMover.map warmMover s.keep.movers else ⟨.cold, .cold, .cold⟩
  { s with
    movers := movers
    restartFaults := if warm then PerMover.map restartFault s.keep.movers else ⟨none, none, none⟩
    declaration := none, creepReference := movers.windlass.position, creepFlag := false, brakeApplied := false,
    latchCheck := false
    claims := ⟨.free, .free, .free⟩
    controls :=
      ⟨firstSeen c.hatchHeld, firstSeen c.upHeld, firstSeen c.downHeld, firstSeen c.heaveHeld,
        firstSeen c.payOutHeld⟩
    footBlocked := false
    cond := restoredConditions s.keep warm s.blank c
    locked := false, staging := none
    keep := consumed s.keep warm }

/-! ### Stage 2: points (R19, R21, R117) -/

/-- A zone takes its power-up scene under RESTORE: an exterior zone only in BERTHED or SETUP (R21). -/
def State.powerUpItems (s : State) (zone : Nat) : List SceneItem :=
  let z := s.zone zone
  if z.exterior ∧ s.cond.mode ≠ .berthed ∧ s.cond.mode ≠ .setup then []
  else
    match z.powerUp.bind fun n => s.scene? zone n with
    | some rec => rec.items.filter (s.itemFits zone)
    | none => []

/-- The resume policy's levels, zones in ascending order (R21). -/
def resumeLevels (s : State) : State :=
  match s.resume with
  | .dark => s
  | .restore =>
    ((List.range zoneCount).flatMap s.powerUpItems).foldl
      (fun s i => s.modPoint i.point fun e => { e with requested := i.level }) s

/-- Every entry starts again: a writable point at its DARK level, QUEUED with a pending write; a SENSE point SETTLED
and unknown (R6, R21). -/
def restartPoints (s : State) : State :=
  { s with points := s.points.map fun e => startEntry e.record true }

/-- The effective levels against the forces that stand (R19, R21). -/
def startLevels (s : State) : State := s.pointNumbers.foldl (fun s p => startLevel s p) s

def stagePoints (s : State) : State :=
  { startLevels (resumeLevels (restartPoints s)) with
    windows := Vector.replicate 6 Window.afterRestart, held := [], nextHold := 0 }

/-! ### Stage 3: field link and ports (R141, R155, R157) -/

def stageLink (s : State) : State :=
  { s with
    queue := [], awaitingRoom := [], haltSlots := ⟨none, none, none⟩, sideFlights := [],
    modules := Vector.ofFn fun k => ModuleRecord.afterRestart s.now (s.inUse k), wireSeq := 0, fences := [], linkOut := [],
    stations := ⟨.detachedValues, .detachedValues, .detachedValues⟩
    heldDown := false, roomFreed := true }

/-- The bring-up, warm when the Keep Records are VALID (R183, R184; log entry 18). The pending writes are placed at
its end. -/
def bringUp (c : Contacts) (s : State) : State := stageLink (stagePoints (restore c s))

/-! ### The commands -/

/-- Main loss is sensed (R182); a part held down for main loss already writes nothing more (log entry 42). -/
def loseMain (s : State) : State := if s.mainLost then s else { holdDown s with mainLost := true }

def execMainLoss (s : State) : Host.Outcome State Fault Refusal := runSupply loseMain s

/-- The RESET line is asserted for 1 ms. While the part runs it is taken as main loss is; while it is held down only the
line's state is kept (R183). -/
def assertReset (s : State) : State :=
  { (if s.heldDown then s else holdDown s) with resetAsserted := true }

def execResetAssert (s : State) : Host.Outcome State Fault Refusal := runSupply assertReset s

/-- The part restarts when it is held down and neither cause stands (R183). -/
def restartIfFree (c : Contacts) (s : State) : State :=
  if s.heldDown && !s.mainLost && !s.resetAsserted then bringUp c s else s

def execMainGood (c : Contacts) (s : State) : Host.Outcome State Fault Refusal :=
  runSupply (fun s => restartIfFree c { s with mainLost := false }) s

def execResetRelease (c : Contacts) (s : State) : Host.Outcome State Fault Refusal :=
  runSupply (fun s => restartIfFree c { s with resetAsserted := false }) s

/-- The keep-alive domain's contents are gone (R181; log entry 17). -/
def execKeepAliveLoss (s : State) : Host.Outcome State Fault Refusal :=
  runSupply (fun s => { s with keepAliveGood := false, keep := KeepRecords.cold false }) s

/-- The keep-alive supply comes up: EMPTY, every notice CLEAR (R181). -/
def execKeepAliveUp (s : State) : Host.Outcome State Fault Refusal :=
  runSupply (fun s => { s with keepAliveGood := true, keep := KeepRecords.cold false }) s

end Sys2Proof.Machine
end

