-- ==== Sys2Proof/Machine/Dispatch.lean ====
section
/-! DEFINITION. The dispatch: one arm per command, each one call of the command's meaning. -/

namespace Sys2Proof.Machine

def exec (i : Instr) (s : State) : Host.Outcome State Fault Refusal :=
  match i with
  | .readPoint o => Sys2Proof.Machine.execReadPoint o s
  | .setPoint o => Sys2Proof.Machine.execSetPoint o s
  | .recallScene o => Sys2Proof.Machine.execRecallScene o s
  | .storeScene o => Sys2Proof.Machine.execStoreScene o s
  | .eraseScene o => Sys2Proof.Machine.execEraseScene o s
  | .claim o => Sys2Proof.Machine.execClaim o s
  | .release o => Sys2Proof.Machine.execRelease o s
  | .renew o => Sys2Proof.Machine.execRenew o s
  | .move o => Sys2Proof.Machine.execMove o s
  | .home o => Sys2Proof.Machine.execHome o s
  | .halt o => Sys2Proof.Machine.execHalt o s
  | .ready o => Sys2Proof.Machine.execReady o s
  | .resetMover o => Sys2Proof.Machine.execResetMover o s
  | .setChainOut o => Sys2Proof.Machine.execSetChainOut o s
  | .setMode o => Sys2Proof.Machine.execSetMode o s
  | .setSwimmer o => Sys2Proof.Machine.execSetSwimmer o s
  | .clearSwimmer o => Sys2Proof.Machine.execClearSwimmer o s
  | .clearEstop o => Sys2Proof.Machine.execClearEstop o s
  | .readConditions o => Sys2Proof.Machine.execReadConditions o s
  | .openWatch o => Sys2Proof.Machine.execOpenWatch o s
  | .closeWatch o => Sys2Proof.Machine.execCloseWatch o s
  | .concur o => Sys2Proof.Machine.execConcur o s
  | .decline o => Sys2Proof.Machine.execDecline o s
  | .listHeld o => Sys2Proof.Machine.execListHeld o s
  | .fence o => Sys2Proof.Machine.execFence o s
  | .assignSpare o => Sys2Proof.Machine.execAssignSpare o s
  | .releaseSpare o => Sys2Proof.Machine.execReleaseSpare o s
  | .terminalWrite o => Sys2Proof.Machine.execTerminalWrite o s
  | .readModule o => Sys2Proof.Machine.execReadModule o s
  | .readFault o => Sys2Proof.Machine.execReadFault o s
  | .readEvents o => Sys2Proof.Machine.execReadEvents o s
  | .ackEvents o => Sys2Proof.Machine.execAckEvents o s
  | .setEnables o => Sys2Proof.Machine.execSetEnables o s
  | .loadConfig o => Sys2Proof.Machine.execLoadConfig o s
  | .lockConfig o => Sys2Proof.Machine.execLockConfig o s
  | .unknownOrder code o => Sys2Proof.Machine.execUnknownOrder code o s
  | .checkByteFailed st frame => Sys2Proof.Machine.execCheckByteFailed st frame s
  | .strayByte st b => Sys2Proof.Machine.execStrayByte st b s
  | .invalidLength st b => Sys2Proof.Machine.execInvalidLength st b s
  | .frameGap st => Sys2Proof.Machine.execFrameGap st s
  | .characterError st => Sys2Proof.Machine.execCharacterError st s
  | .replySent st => Sys2Proof.Machine.execReplySent st s
  | .stationAttach st => Sys2Proof.Machine.execStationAttach st s
  | .stationDetach st => Sys2Proof.Machine.execStationDetach st s
  | .frameSend => Sys2Proof.Machine.execFrameSend s
  | .timelyReply r => Sys2Proof.Machine.execTimelyReply r s
  | .lateReply r => Sys2Proof.Machine.execLateReply r s
  | .replyDiscarded bytes => Sys2Proof.Machine.execReplyDiscarded bytes s
  | .replyDeadlineExpiry module seq => Sys2Proof.Machine.execReplyDeadlineExpiry module seq s
  | .routinePollDue module => Sys2Proof.Machine.execRoutinePollDue module s
  | .motionPollDue m => Sys2Proof.Machine.execMotionPollDue m s
  | .returnPollDue module => Sys2Proof.Machine.execReturnPollDue module s
  | .mergeWindowExpiry module => Sys2Proof.Machine.execMergeWindowExpiry module s
  | .travelTimeExpiry m => Sys2Proof.Machine.execTravelTimeExpiry m s
  | .stallWindowExpiry m => Sys2Proof.Machine.execStallWindowExpiry m s
  | .settleTimeExpiry m => Sys2Proof.Machine.execSettleTimeExpiry m s
  | .recoveryPauseEnd m => Sys2Proof.Machine.execRecoveryPauseEnd m s
  | .localControlPressed c => Sys2Proof.Machine.execLocalControlPressed c s
  | .localControlReleased c => Sys2Proof.Machine.execLocalControlReleased c s
  | .leaseExpiry m => Sys2Proof.Machine.execLeaseExpiry m s
  | .override m => Sys2Proof.Machine.execOverride m s
  | .localHoldExpiry m => Sys2Proof.Machine.execLocalHoldExpiry m s
  | .loopOpen l => Sys2Proof.Machine.execLoopOpen l s
  | .loopClosed l => Sys2Proof.Machine.execLoopClosed l s
  | .matOccupied => Sys2Proof.Machine.execMatOccupied s
  | .matClear => Sys2Proof.Machine.execMatClear s
  | .holdExpiry hold => Sys2Proof.Machine.execHoldExpiry hold s
  | .mainLoss => Sys2Proof.Machine.execMainLoss s
  | .resetAssert => Sys2Proof.Machine.execResetAssert s
  | .mainGood seen => Sys2Proof.Machine.execMainGood seen s
  | .resetRelease seen => Sys2Proof.Machine.execResetRelease seen s
  | .keepAliveLoss => Sys2Proof.Machine.execKeepAliveLoss s
  | .keepAliveUp => Sys2Proof.Machine.execKeepAliveUp s

end Sys2Proof.Machine
end

