-- ==== Sys2Proof/Machine/Step.lean ====
section
/-! DEFINITION. One step of the block: the command at the front of the queue, or, with none waiting, one millisecond of
idling. -/

namespace Sys2Proof.Machine

/-- Take the command at the front of the queue and carry it out on the state with the queue's rest. On an empty queue
the block idles and its clock ticks (log entry 1). -/
def step (s : State) : Host.Outcome State Fault Refusal :=
  match s.pending with
  | [] => .next { s with now := s.now + 1 }
  | c :: rest => exec c { s with pending := rest }

/-- The state with the command a word spells at the front of its queue; unchanged where the word spells none. -/
def State.withFetchWord (s : State) (nbits w : Nat) : State :=
  match decodeTableWord nbits w with
  | some c => { s with pending := c :: s.pending }
  | none => s

end Sys2Proof.Machine
end

