-- ==== Sys2Proof/Safety.lean ====
section
/-! DEFINITION. The predicates the statements are written in: what stands between two steps, when a port takes an
order, the state an answered order leaves, what a halt, a passed claim, a watch window and a released order come to, and
the laws the spec names. -/

namespace Sys2Proof.Machine

/-! ### Between two steps -/

/-- The law of held frames (R121, R123): a frame held for want of admission is a TERMINAL_WRITE or a POLL as it was
handed, closed and unsent, with no mark and no wire sequence number. -/
def State.RoomLaw (s : State) : Prop :=
  ∀ f ∈ s.awaitingRoom,
    f = QueueFrame.fresh f.module f.body ∧ (f.body.kind = .terminalWrite ∨ f.body.kind = .poll)

/-- What every step leaves and the next one finds (log entries 8 and 31): no freed record unused, no complete fence
unanswered, every attention line as R158 asks, every intake entry, fence and fence mark numbered below the next number,
and the frames held for want of admission as they were handed. -/
structure State.Kept (s : State) : Prop where
  roomUsed   : s.roomFreed = false
  fencesWait : ∀ f ∈ s.fences, fenceComplete s.queue f = false
  linesSet   : ∀ n, (s.station n).atn = lineOf s.heldDown (s.station n)
  numbered   : ∀ n, ∀ e ∈ (s.station n).intake, e.serial < s.nextSerial
  fencesOld  : ∀ f ∈ s.fences, f.order.serial < s.nextSerial
  marksOld   : ∀ f ∈ s.queue ++ s.awaitingRoom, ∀ x ∈ f.marks, x < s.nextSerial
  roomFresh  : s.RoomLaw

/-! ### Orders -/

/-- The part runs, and the port of the order's station takes the order when it arrives (R155, R162, R163). -/
structure State.Takes (s : State) (o : OrderFrame) : Prop where
  running  : s.heldDown = false
  attached : (s.station o.station).attached = true
  tagFree  : ∀ e ∈ (s.station o.station).intake, e.tag ≠ o.tag
  room     : (s.station o.station).intake.length < 4

/-- The name of the order taken next; its number is the model's (log entry 31). -/
def State.nextRef (s : State) (o : OrderFrame) : OrderRef := ⟨o.station, o.tag, s.nextSerial⟩

/-- A Station Record with a fresh entry at the end of its intake. -/
def StationRecord.entered (r : StationRecord) (serial : Nat) (code : Byte) (o : OrderFrame) (stage : IntakeStage) :
    StationRecord :=
  { r with
    receiver := .hunting
    intake := r.intake ++ [⟨serial, o.tag, code, o.target, o.attrs, o.words, stage⟩] }

/-- The state with the order in its station's intake, WAITING: nothing else is changed. -/
def State.entered (s : State) (code : Byte) (o : OrderFrame) : State :=
  { s.setStation o.station ((s.station o.station).entered s.nextSerial code o .waiting) with
    nextSerial := s.nextSerial + 1 }

/-- The fault record of a station once its order is answered (R175, Table 10-3). -/
def State.faultAfter (s : State) (code : Byte) (o : OrderFrame) (res : Result) (why : Reason) : FaultRecord :=
  match replyFaultClass code res why with
  | none => (s.station o.station).fault
  | some cls => faultAbout cls why.code (orderSubject code o.target o.words) s

/-- The state with the order in its station's intake, ANSWERED, its reply placed last (R166, R167), and the fault
record as Table 10-3 has it: nothing else is changed. -/
def State.answered (s : State) (code : Byte) (o : OrderFrame) (res : Result) (why : Reason) (data : List Word) : State :=
  { s.setStation o.station
      { (s.station o.station).entered s.nextSerial code o .answered with
        replies := (s.station o.station).replies ++ [⟨some s.nextSerial, o.tag, res, why, data⟩]
        fault := s.faultAfter code o res why } with
    nextSerial := s.nextSerial + 1 }

/-- The state after a commit that the record at `index` refuses: the staging copy is gone, and the fault record names the
record's binding where it has one (R175, R179). -/
def State.loadRefused (s : State) (o : OrderFrame) (why : Reason) (index : Nat) (about : Option Subject) : State :=
  let t := ({ s with staging := none } : State).answered codeLoadConfig o .refused why [wordOfNat index]
  match about with
  | none => t
  | some subj =>
    t.setStation o.station
      { t.station o.station with fault := ⟨.field, why.code, subj.kind, subj.number, false, 0⟩ }

/-- The state after an order of the holder that names the mover: an ATTENDED lease runs 1.5 s from now (R67). -/
def State.attendedBy (s : State) (n : Station) (m : Mover) : State :=
  if (s.claim m).holder = .station n ∧ (s.claim m).ending = .notEnding ∧ (s.claim m).lease = some .attended then
    s.setClaim m { s.claim m with deadline := some (s.now + 1500) }
  else s

/-- The two words of an event set: code c at weight 2 to the power c of the first, or c − 16 of the second (R171). -/
def setWords (e : EventSet) : List Word := [e.extractLsb' 0 16, (e.extractLsb' 16 7).setWidth 16]

/-- A station's record with an event added to its status set. -/
def StationRecord.told (r : StationRecord) (code : Nat) : StationRecord :=
  if r.attached then { r with status := r.status ||| 1#23 <<< code } else r

/-- A reply to the order of this name stands among the replies its station's port is to send. -/
def State.hasReply (t : State) (r : OrderRef) (res : Result) (why : Reason) (data : List Word) : Prop :=
  (⟨some r.serial, r.tag, res, why, data⟩ : Placed) ∈ (t.station r.station).replies

/-- The order of this name is outstanding in its station's intake. -/
def State.Awaits (s : State) (r : OrderRef) : Prop := ∃ e ∈ (s.station r.station).intake, e.serial = r.serial

/-- Every attached station has the event of this code in its status set. -/
def State.AllHear (t : State) (code : Nat) : Prop :=
  ∀ n, (t.station n).attached = true → (t.station n).status.getLsbD code = true

/-! ### Halts and claims let go -/

/-- The halt frame of the mover's recovery pause has been confirmed (R35). -/
def MoverRecord.stopConfirmed (r : MoverRecord) : Bool := (r.pause.map fun p => p.confirmed).getD false

/-- The record of a mover that a halt request does not bring to rest at once (R37): HALTING with the cause, its timers
stopped; in a motion state a press whose drive is halted is spent (R58). -/
def MoverRecord.halting (r : MoverRecord) (why : Reason) : MoverRecord :=
  { r with
    state := .halting, haltCause := some why, poll := .idle, travel := none, stall := none, settle := none
    pause := none, homingTravel := none
    live := if isMotion r.state then r.live.filter fun l => !l.driving else r.live }

/-- The record of a mover that a halt request brings to rest at once, in RECOVERING with the halt frame confirmed (R37,
R38): HALTED, or UNHOMED without a valid position; with the link lost FAULTED (R39; log entry 20). -/
def MoverRecord.stopped (r : MoverRecord) : MoverRecord :=
  { r with
    state := if r.linkLost then .faulted else if r.valid then .halted else .unhomed
    lastFault := if r.linkLost then .linkLost else r.lastFault
    target := none, recovery := false, linkLost := false, haltCause := none, deferred := none, poll := .idle
    travel := none, stall := none, settle := none, pause := none, homingTravel := none
    live := r.live.filter fun l => !l.driving }

/-- The deferred reply of a mover brought to rest by a halt request is ENDED with the reason, or with MOTION_FAULT when
the link was lost, and the four words of R41. -/
def State.DeferredEnds (s t : State) (r : MoverRecord) (why : Reason) : Prop :=
  ∀ ref ∈ r.deferred, s.Awaits ref →
    t.hasReply ref .ended (if r.linkLost then .motionFault else why)
      [wordOf r.position, flagWord r.valid, wordOfNat r.attempts, wordOfNat r.stopped.lastFault.code]

/-- The sequence's end is told to this station, the holder: MOTION_DONE, or MOTION_FAULT when the link was lost (R42). -/
def State.EndTold (s t : State) (r : MoverRecord) (n : Station) : Prop :=
  (s.station n).attached = true → (t.station n).status.getLsbD (if r.linkLost then 4 else 3) = true

/-- What a halt request with this reason makes of the mover, by its state (R37). The last case but one is of RECOVERING
with the halt frame confirmed; under a station's claim that is not ending, the mover rests there with a REST lease (R66). -/
def State.Halts (s t : State) (m : Mover) (why : Reason) : Prop :=
  let r := s.mover m
  (isMotion r.state = true → t.mover m = r.halting why ∧ (t.haltSlots.get m).isSome = true) ∧
  (r.state = .recovering → r.stopConfirmed = false → t.mover m = r.halting why) ∧
  (r.state = .recovering → r.stopConfirmed = true →
    s.DeferredEnds t r why ∧
    ∀ n, (s.claim m).holder = .station n → (s.claim m).ending = .notEnding →
      t.mover m = r.stopped ∧ s.EndTold t r n ∧
      t.claim m = { s.claim m with lease := some .rest, deadline := some (s.now + 120000) }) ∧
  (isMotionOrRecovering r.state = false → t.mover m = r)

/-- The claim of a waiter that it passes to at this moment: the REST lease, and the override timer as it stood (R66, R72). -/
def ClaimRecord.granted (c : ClaimRecord) (n : Station) (moment : Nat) (rest : List OrderRef) : ClaimRecord :=
  { holder := .station n, lease := some .rest, deadline := some (moment + 120000), ending := .notEnding,
    override := c.override, localHold := none, passPending := false, releaseOrder := none, waiters := rest }

/-- The claim of the mover, let go at this moment with these waiters, has passed (R72): to the oldest whose profile has
the mover, its CLAIM DONE and CLAIM_GRANTED raised in it, with LOCAL_PRESS when the override timer runs; those before it are
refused NO_AUTHORITY. With none left it is free, or LOCAL's while a control of the mover is pressed. -/
def State.Passed (s t : State) (m : Mover) (moment : Nat) (waiters : List OrderRef) : Prop :=
  let lacks := fun w : OrderRef => !(s.profile w.station).movers.get m
  (∀ w ∈ waiters.takeWhile lacks, s.Awaits w → t.hasReply w .refused .noAuthority []) ∧
  match waiters.dropWhile lacks with
  | r :: rest =>
    t.claim m = (s.claim m).granted r.station moment rest ∧ (s.Awaits r → t.hasReply r .done .noReason []) ∧
    ((s.station r.station).attached = true →
      (t.station r.station).status.getLsbD 0 = true ∧
      ((s.claim m).override.isSome = true → (t.station r.station).status.getLsbD 5 = true))
  | [] =>
    t.claim m =
      { holder := if ∃ c ∈ controlsOf m, s.control c = .passed then .deck else .nobody, lease := none, deadline := none,
        ending := .notEnding, override := none, localHold := none, passPending := false, releaseOrder := none,
        waiters := [] }

/-! ### Watch windows and held orders -/

/-- The window is OPEN, of another station than `n` and of the kind, and covers one of the points (R105, R108). -/
def State.Caught (s : State) (n : Station) (isHold : Bool) (points : List Nat) (i : Fin 6) : Bool :=
  s.windows[i].isOpen && s.windows[i].isHold == isHold && windowOwner i != n && points.any s.windows[i].covers

/-- What windows that catch an order tell every station: the report joins the list of each owner of a REPORT window, the
oldest of nine leaving it, with WATCH_REPORT (R109); HOLD_PENDING is raised in each owner of a HOLD window (R110). -/
def State.Watched (s t : State) (caught : Bool → Fin 6 → Bool) (rep : Report) : Prop :=
  ∀ n,
    let owns := fun isHold => (List.finRange 6).any fun i => caught isHold i && windowOwner i == n
    let r := s.station n
    (t.station n).reports =
      (if owns false = true then (r.reports ++ [rep]).drop (r.reports.length + 1 - 8) else r.reports) ∧
    (t.station n).status =
      r.status ||| (if owns true = true ∧ r.attached = true then 1#23 <<< 8 else 0)
        ||| (if owns false = true ∧ r.attached = true then 1#23 <<< 10 else 0)

/-- The operands of a held order fit in words, as the order frame that brought them had them (R161). -/
def HeldOrder.InWords : HeldOrder → Prop
  | .setPoint _ level fade => -32768 ≤ level ∧ level < 32768 ∧ -32768 ≤ fade ∧ fade < 32768
  | .recall _ _ => True

/-- What a released order is answered, judged anew against the tables and the mode as they stand (R111): a SET_POINT by
the checks of R13, a RECALL_SCENE from the scene as ordered by R89 and R16. With DONE come the writes it makes. -/
def State.onRelease (s : State) : HeldOrder → Result × Reason × List Word × List SceneItem
  | .setPoint p level fade =>
    match s.writable? p with
    | none => (.refused, .badTarget, [], [])
    | some e =>
      if levelValid e.kind level = true ∧ 0 ≤ fade ∧ fade ≤ 600 then
        (.done, if s.activeForces p = [] then .noReason else .forced, [wordOf (largestOr level (s.activeForces p))],
          [⟨p, level, fade⟩])
      else (.refused, .badOperand, [], [])
  | .recall zone scene =>
    match
      if s.cond.mode = .underway ∧ (s.zone zone).navSensitive = true then (s.zone zone).dark else some scene with
    | none => (.refused, .modeInvalid, [], [])
    | some found =>
      match s.scene? zone found with
      | none => (.refused, .badOperand, [], [])
      | some rec =>
        let fits := rec.items.filter (s.itemFits zone)
        (.done, if ∃ i ∈ fits, s.activeForces i.point ≠ [] then .forced else .noReason,
          [wordOfNat found, wordOfNat fits.length, wordOfNat (rec.items.length - fits.length)], fits)

/-- The points and the queue after the writes a released order makes, by the writer its kind gives (R3). -/
def State.writesOf (s u : State) (h : HeldEntry) : State :=
  let writer : Writer :=
    match h.what with
    | .setPoint _ _ _ => .station h.order.station
    | .recall _ _ => .scene h.order.station
  (s.onRelease h.what).2.2.2.foldl (fun u i => writePoint i.point i.level i.fade writer u) u

/-- The released order has its reply, and HOLD_RESOLVED is raised in its orderer (R111). -/
def State.Released (s t : State) (h : HeldEntry) : Prop :=
  let a := s.onRelease h.what
  (s.Awaits h.order → t.hasReply h.order a.1 a.2.1 a.2.2.1) ∧ (t.station h.order.station).status.getLsbD 9 = true

/-- No module drives two machines (R48). -/
def State.OneMoverEach (s : State) : Prop := ∀ a b, s.params.modules.get a = s.params.modules.get b → a = b

/-- The part runs, and the reply is of this PRESENT module. -/
structure State.Answers (s : State) (k : Fin 32) (r : FieldReply) : Prop where
  running : s.heldDown = false
  module  : r.module.toNat = k.val
  present : (s.module k).present = true

/-- The reply answers a POLL of the mover's module that serves no latch check, or a motion poll, and brings the drive
report `x`; the score it raises is not a weak one (R39(c)). -/
structure State.Brings (s : State) (m : Mover) (r : FieldReply) (x : DriveReport) : Prop where
  answers  : s.Answers (s.params.modules.get m) r
  apart    : s.OneMoverEach
  strong   : 3 ≤ (s.module (s.params.modules.get m)).score
  drive    : r.drive = some x
  answered :
    (∃ f, s.queue.find? (fun g => g.answeredBy (s.params.modules.get m) r) = some f ∧
      ∃ isReturn, f.body = .poll false isReturn) ∨
    (s.queue.find? (fun g => g.answeredBy (s.params.modules.get m) r) = none ∧
      ∃ y, s.sideFlights.find? (fun y => y.answeredBy (s.params.modules.get m) r) = some y ∧
        ∃ j, y.kind = .motionPoll j)

/-- The command brings a reply of the mover's PRESENT module, late, or timely in answer to a POLL that serves no latch
check; the score a timely one raises is not a weak one (R39(c)). -/
structure State.Reports (s : State) (m : Mover) (r : FieldReply) (c : Instr) : Prop where
  answers : s.Answers (s.params.modules.get m) r
  arrives :
    c = .lateReply r ∨
    (c = .timelyReply r ∧ 3 ≤ (s.module (s.params.modules.get m)).score ∧
      ∃ f, s.queue.find? (fun g => g.answeredBy (s.params.modules.get m) r) = some f ∧
        ∃ isReturn, f.body = .poll false isReturn)

/-- The point `p` has been moved from a binding to another (R147): its entry was `e` and is now `e'`. A SENSE point's state
is the presence of the new module. A writable point is LOST without a pending write where that module is ABSENT, and
otherwise FAULTED or QUEUED by the new terminal's mark, with a write pending or placed; and no live item of it is left on
the old binding. -/
def State.MovedTo (s t : State) (p : Nat) (e e' : PointEntry) (old new : Binding) : Prop :=
  let k := s.module new.module
  (e.kind = .sense → e'.delivery = if k.present then .settled else .lost) ∧
  (e.kind ≠ .sense →
    (k.present = false → e'.delivery = .lost ∧ e'.writePending = false) ∧
    (k.present = true →
      e'.delivery = (if k.failed.getLsbD new.terminal.val then .faulted else .queued) ∧
      (e'.writePending = true ∨
        ∃ f ∈ t.queue, f.stage = .unsent ∧ ∃ i ∈ f.items, i.point = p ∧ i.binding = new ∧ i.tie = .live)) ∧
    ∀ f ∈ t.queue, ∀ i ∈ f.items, i.point = p → i.binding = old → i.tie ≠ .live)

/-- The bit of a reply's switches that is the machine's home switch (Table 3-1, Table 7-6). -/
def homeSwitchOf : Mover → Nat
  | .hatch => 0 | .platform => 3 | .windlass => 5

/-- A frame whose mover has a retired command frame in flight (R126). -/
def State.HeldBack (s : State) (f : QueueFrame) : Prop :=
  ∃ m, f.commands m = true ∧ ∃ g ∈ s.queue, g.commands m = true ∧ g.retired = true ∧ g.stage.isInFlight = true

/-- A closed frame that is unsent or awaits its resend. -/
def QueueFrame.Ripe (f : QueueFrame) : Prop := f.isOpen = false ∧ (f.stage = .unsent ∨ f.stage = .awaitingResend)

/-- The module's frames in flight are below its limit, 3 STEADY and 1 SLOW (R127). -/
def State.Room (s : State) (k : Fin 32) : Prop := s.inFlightCount k < if 8 ≤ (s.module k).score then 3 else 1

/-- The frame at index `i` is the oldest closed frame that may be sent (R126, R127): its module has room, nothing holds
it back, and no older frame of its module is held back; every older closed frame that waits is held back, or stands
behind one of its module that is, or has no room. -/
def State.FirstReady (s : State) (i : Nat) (f : QueueFrame) : Prop :=
  s.queue[i]? = some f ∧ f.Ripe ∧ s.Room f.module ∧ ¬s.HeldBack f ∧
  (∀ j g, j < i → s.queue[j]? = some g → g.Ripe →
    (s.HeldBack g → g.module ≠ f.module) ∧
    (s.HeldBack g ∨ ¬s.Room g.module ∨
      ∃ l x, l < j ∧ s.queue[l]? = some x ∧ x.Ripe ∧ s.HeldBack x ∧ x.module = g.module))

/-- The orders of Table 9-4, each as the command its frame is. -/
def orderCommands : List (OrderFrame → Instr) :=
  [.readPoint, .setPoint, .recallScene, .storeScene, .eraseScene, .claim, .release, .renew, .move, .home, .halt,
   .ready, .resetMover, .setChainOut, .setMode, .setSwimmer, .clearSwimmer, .clearEstop, .readConditions, .openWatch,
   .closeWatch, .concur, .decline, .listHeld, .fence, .assignSpare, .releaseSpare, .terminalWrite, .readModule,
   .readFault, .readEvents, .ackEvents, .setEnables, .loadConfig, .lockConfig]

/-- The commands of the Supply Monitor, which it takes whether or not the part is held down. -/
def supplyCommand : Instr → Bool
  | .mainLoss | .resetAssert | .mainGood _ | .resetRelease _ | .keepAliveLoss | .keepAliveUp => true
  | _ => false

/-! ### The laws the spec names -/

/-- The law of the intake (spec/09, 9.3): never more than four outstanding orders of a station, their tags distinct. -/
def State.IntakeLaw (s : State) : Prop :=
  ∀ n, (s.station n).intake.length ≤ 4 ∧ ((s.station n).intake.map fun e => e.tag).Nodup

/-- The law of forced levels (spec/01, 1.1): the effective level of a writable point is the largest of its active
forces, or else its requested level. With it what it rests on: a declaration waits only while the windlass rests. -/
def State.ForceLaw (s : State) : Prop :=
  (∀ p e, s.writable? p = some e → e.effective = s.effectiveLevel p e) ∧
  (s.declaration.isSome → isActive s.movers.windlass.state = false)

/-- The law of claims (spec/04, 4.1): an active mover's claim is held; a station that holds with ending NONE has a
lease kind and a deadline; LOCAL has neither. With it what it rests on: an ending REVOKED is LOCAL's. -/
def State.ClaimLaw (s : State) : Prop :=
  ∀ m,
    (isActive (s.mover m).state → (s.claim m).holder ≠ .nobody) ∧
    (∀ n, (s.claim m).holder = .station n → (s.claim m).ending = .notEnding →
      (s.claim m).lease.isSome ∧ (s.claim m).deadline.isSome) ∧
    ((s.claim m).holder = .deck → (s.claim m).lease = none ∧ (s.claim m).deadline = none) ∧
    ((s.claim m).ending = .revoked → (s.claim m).holder = .deck)

/-- The law of the wait lists (spec/04, 4.1): a list holds no station twice, never the holder, and only attached
stations; a free claim has an empty list. -/
def State.WaitLaw (s : State) : Prop :=
  ∀ m,
    ((s.claim m).waiters.map fun r => r.station).Nodup ∧
    (∀ r ∈ (s.claim m).waiters, (s.station r.station).attached ∧ (s.claim m).holder ≠ .station r.station) ∧
    ((s.claim m).holder = .nobody → (s.claim m).waiters = [])

/-- The law of the emergency stop (spec/05, 5.4): no mover is in HOMING, MOVING or SETTLING while the latch is set. -/
def State.StopLaw (s : State) : Prop := s.cond.latch = true → ∀ m, isMotion (s.mover m).state = false

/-- The law of the hatch and platform (spec/05, 5.6), that the two are never both active; and of the law of the vessel
modes (spec/05, 5.2) that neither is active in UNDERWAY. -/
def State.PartnerLaw (s : State) : Prop :=
  ¬(isActive s.movers.hatch.state = true ∧ isActive s.movers.platform.state = true) ∧
  (s.cond.mode = .underway → isActive s.movers.hatch.state = false ∧ isActive s.movers.platform.state = false)

/-- The law of held orders (spec/06, 6.3): every entry is an attached station's and awaits at least one OPEN HOLD
window, all of other stations. With it what it rests on: no two entries have one hold number, and there are at most
eight. -/
def State.HeldLaw (s : State) : Prop :=
  (∀ h ∈ s.held,
    (s.station h.order.station).attached = true ∧ h.marks ≠ 0 ∧
    ∀ i : Fin 6, h.marks.getLsbD i.val →
      (s.windows[i]).isOpen ∧ (s.windows[i]).isHold ∧ windowOwner i ≠ h.order.station) ∧
  (s.held.map fun h => h.hold).Nodup ∧ s.held.length ≤ 8

/-- The law of the unconfirmed count (spec/07, 7.3): at most 12 queue frames in flight. -/
def State.UnconfirmedLaw (s : State) : Prop := s.unconfirmed ≤ 12

/-- The law of open frames (R123, R126): a frame that is open is a LEVELS frame not yet sent. -/
def State.OpenLaw (s : State) : Prop :=
  ∀ f ∈ s.queue ++ s.awaitingRoom, f.isOpen = true → f.stage = .unsent ∧ f.body.kind = .levels

/-- The law of spares (spec/08, 8.2): no failed binding in two entries, and no spare that is the primary binding of a
configured point, the failed binding of any entry, or the spare of another entry. -/
def State.SpareLaw (s : State) : Prop :=
  (s.substs.map fun e => e.failed).Nodup ∧ (s.substs.map fun e => e.spare).Nodup ∧
  (∀ e ∈ s.substs, ∀ x ∈ s.substs, e.spare ≠ x.failed) ∧
  (∀ e ∈ s.substs, ∀ p x, s.point? p = some x → e.spare ≠ x.binding)

/-! ### Invariants -/

/-- A property that every step keeps. -/
def KeptByStep (inv : State → Prop) : Prop := ∀ s t, inv s → step s = .next t → inv t

end Sys2Proof.Machine
end

