-- ==== Sys2Proof/WellFormed.lean ====
section
/-! DEFINITION. Which commands are well formed: what the wires can carry, and what a row of the table says of its own
command. A command that is not well formed still has a meaning; nothing is claimed of it. -/

namespace Sys2Proof

open Sys2Proof.Machine

/-- An order frame carries at most 24 operand words (Table 9-1, R159). -/
def OrderFrame.wf (o : OrderFrame) : Bool := decide (o.words.length ≤ 24)

/-- How many results a reply gives (Table 7-6). -/
def FrameKind.resultsFit (k : FrameKind) (n : Nat) : Bool :=
  match k with
  | .levels => decide (1 ≤ n ∧ n ≤ 8)
  | .terminalWrite => n == 1
  | .drive | .home | .poll | .halt => n == 0

/-- A reply's module address names a module, and it gives the results its kind has (R129, Table 7-6). -/
def FieldReply.wf (r : FieldReply) : Bool := decide (r.module.toNat < 32) && r.kind.resultsFit r.results.length

/-- A frame completed with a wrong check byte: a valid length, the bytes it counts, and a sum that is not zero
(R159, R160). -/
def failedFrame (bytes : List Byte) : Bool :=
  match bytes with
  | [] => false
  | len :: _ => lengthValid len && frameComplete bytes && byteSum bytes != 0

/-- Well-formed commands. -/
def Instr.wf : Instr → Bool
  | .readPoint o | .setPoint o | .recallScene o | .storeScene o | .eraseScene o | .claim o | .release o | .renew o
  | .move o | .home o | .halt o | .ready o | .resetMover o | .setChainOut o | .setMode o | .setSwimmer o
  | .clearSwimmer o | .clearEstop o | .readConditions o | .openWatch o | .closeWatch o | .concur o | .decline o
  | .listHeld o | .fence o | .assignSpare o | .releaseSpare o | .terminalWrite o | .readModule o | .readFault o
  | .readEvents o | .ackEvents o | .setEnables o | .loadConfig o | .lockConfig o => o.wf
  | .unknownOrder code o => o.wf && !orderCodes.contains code
  | .checkByteFailed _ frame => failedFrame frame
  | .strayByte _ b => b != orderStart
  | .invalidLength _ b => !lengthValid b
  | .timelyReply r => r.wf
  | .lateReply r => r.wf
  | .frameGap _ | .characterError _ | .replySent _ | .stationAttach _ | .stationDetach _ | .frameSend
  | .replyDiscarded _ | .replyDeadlineExpiry _ _ | .routinePollDue _ | .motionPollDue _ | .returnPollDue _
  | .mergeWindowExpiry _ | .travelTimeExpiry _ | .stallWindowExpiry _ | .settleTimeExpiry _ | .recoveryPauseEnd _
  | .localControlPressed _ | .localControlReleased _ | .leaseExpiry _ | .override _ | .localHoldExpiry _
  | .loopOpen _ | .loopClosed _ | .matOccupied | .matClear | .holdExpiry _ | .mainLoss | .resetAssert | .mainGood _
  | .resetRelease _ | .keepAliveLoss | .keepAliveUp => true

end Sys2Proof
end

