-- ==== Sys2Proof/Certificates/Slice0/Obligations.lean ====
section
/-! DEFINITION. The statements for the provers. -/

open Sys2Proof Sys2Proof.Machine

/-! ### The block -/

/-- Step takes the command at the front of the queue and is `exec` of it on the state with the queue's rest; with none
waiting the block idles and only its clock moves (the model's choice, log entry 1). -/
def Obligations.StepTakesTheFrontCommand : Prop :=
  (∀ (c : Instr) (rest : List Instr) (s : State),
      step { s with pending := c :: rest } = exec c { s with pending := rest }) ∧
  ∀ s : State, s.pending = [] → step s = .next { s with now := s.now + 1 }

/-- No command stops the block, and none touches the queue. While the part is held down no event but a supply's is
taken (R182): it changes nothing. -/
def Obligations.EveryCommandAnswersNext : Prop :=
  (∀ (c : Instr) (s : State), ∃ t, exec c s = .next t ∧ t.pending = s.pending) ∧
  (∀ (c : Instr) (s : State), s.heldDown = true → supplyCommand c = false → exec c s = .next s)

/-! ### Orders that read -/

/-- R12: READ_POINT. -/
def Obligations.ReadPointAnswersTheEntry : Prop :=
  ∀ (s : State) (o : OrderFrame), s.Kept → s.Takes o →
    exec (.readPoint o) s = .next (
      match s.point? o.target.toNat with
      | none => s.answered codeReadPoint o .refused .badTarget []
      | some e =>
        if o.words ≠ [] then s.answered codeReadPoint o .refused .badOperand []
        else
          let shown := fun level : Int =>
            if e.kind = .sense then wordOrMinusOne e.confirmed else wordOf level
          s.answered codeReadPoint o .done .noReason
            [wordOfNat e.kind.code, wordOfNat e.zone, shown e.requested, shown e.effective,
             wordOrMinusOne e.confirmed, wordOfNat e.delivery.code, wordOfNat e.lastWriter.code, wordOf e.lastFade,
             wordOfNat (16 * (inForce s.substs e.binding).module.val + (inForce s.substs e.binding).terminal.val)])

/-- R101: READ_CONDITIONS; a switch word is −1 unless the machine's module is PRESENT and has replied. R140:
READ_MODULE. -/
def Obligations.ReadConditionsAndReadModule : Prop :=
  (∀ (s : State) (o : OrderFrame), s.Kept → s.Takes o →
     exec (.readConditions o) s = .next (
       if o.target ≠ 0 then s.answered codeReadConditions o .refused .badTarget []
       else if o.words ≠ [] then s.answered codeReadConditions o .refused .badOperand []
       else
         let switch := fun (m : Mover) (made : Bool) =>
           if s.cond.seen.get m = true ∧ (s.module (s.params.modules.get m)).present = true then flagWord made else -1
         s.answered codeReadConditions o .done .noReason
           [wordOfNat s.cond.mode.code, flagWord s.cond.swimmer, flagWord s.cond.latch, flagWord s.cond.bowOpen,
            flagWord s.cond.sternOpen, flagWord s.cond.garageOpen, flagWord s.cond.matOccupied,
            switch .hatch s.cond.hatchClosed, switch .hatch s.cond.hatchOpen, switch .hatch s.cond.latchMade,
            switch .platform s.cond.stowed, switch .platform s.cond.deckSwitch, switch .windlass s.cond.anchorHome])) ∧
  (∀ (s : State) (o : OrderFrame), s.Kept → s.Takes o →
     exec (.readModule o) s = .next (
       if h : o.target.toNat < 32 then
         let k : Fin 32 := ⟨o.target.toNat, h⟩
         let r := s.module k
         if o.words ≠ [] then s.answered codeReadModule o .refused .badOperand []
         else
           s.answered codeReadModule o .done .noReason
             ([flagWord (!r.present), wordOfNat r.score, flagWord (decide (r.score < 8)), wordOfNat (s.inFlightCount k),
               wordOfNat (s.queue.filter fun f => f.module == k && !f.stage.isInFlight).length,
               flagWord (s.inUse k), r.failed]
               ++ (r.snapshot.map fun v => v.toList).getD (List.replicate 16 (-1)))
       else s.answered codeReadModule o .refused .badTarget []))

/-- R115: LIST_HELD. -/
def Obligations.ListHeldAnswersTheList : Prop :=
  ∀ (s : State) (o : OrderFrame), s.Kept → s.Takes o →
    exec (.listHeld o) s = .next (
      if o.target ≠ 0 then s.answered codeListHeld o .refused .badTarget []
      else
        match o.words with
        | [] =>
          s.answered codeListHeld o .done .noReason <| s.held.flatMap fun h =>
            [h.hold ++ (match h.what with | .setPoint _ _ _ => 0x02#8 | .recall _ _ => 0x03#8),
             BitVec.ofNat 8 (stationNumber h.order.station) ++ h.marks.setWidth 8,
             wordOfNat (match h.what with | .setPoint p _ _ => p | .recall zone _ => zone)]
        | [w] =>
          match s.held.find? fun h => h.hold.toNat == w.toNat with
          | none => s.answered codeListHeld o .refused .badOperand []
          | some h =>
            s.answered codeListHeld o .done .noReason
              ([h.hold.setWidth 16, wordOfNat (stationNumber h.order.station), h.order.tag.setWidth 16]
                ++ (match h.what with
                    | .setPoint p level fade => [0x02#16, wordOfNat p, wordOf level, wordOf fade]
                    | .recall zone _ => [0x03#16, wordOfNat zone, wordOfNat h.judged, 0])
                ++ [h.marks.setWidth 16, wordOfNat ((h.deadline - s.now + 99) / 100)])
        | _ => s.answered codeListHeld o .refused .badOperand [])

/-- R172: READ_EVENTS; event code c stands at weight 2 to the power c of the first word, or c − 16 of the second.
R176: READ_FAULT; the record is read and becomes NO_FAULT. -/
def Obligations.ReadEventsAndReadFault : Prop :=
  (∀ (s : State) (o : OrderFrame), s.Kept → s.Takes o →
     exec (.readEvents o) s = .next (
       if o.target ≠ 0 then s.answered codeReadEvents o .refused .badTarget []
       else if o.words ≠ [] then s.answered codeReadEvents o .refused .badOperand []
       else
         let r := s.station o.station
         let low := fun e : EventSet => (e.extractLsb' 0 16 : Word)
         let high := fun e : EventSet => (e.extractLsb' 16 7).setWidth 16
         s.answered codeReadEvents o .done .noReason
           ([low r.status, high r.status, low r.enable, high r.enable, wordOfNat r.reports.length]
             ++ r.reports.flatMap fun x =>
               [wordOfNat (2048 * stationNumber x.orderer + (if x.isZone then 1024 else 0) + x.number), wordOf x.value]))) ∧
  (∀ (s : State) (o : OrderFrame), s.Kept → s.Takes o →
     exec (.readFault o) s = .next (
       if o.target ≠ 0 then s.answered codeReadFault o .refused .badTarget []
       else if o.words ≠ [] then s.answered codeReadFault o .refused .badOperand []
       else
         let f := (s.station o.station).fault
         (s.setStation o.station { s.station o.station with fault := ⟨.noFault, 0, .nothing, 0, false, 0⟩ }).answered
           codeReadFault o .done .noReason
           [wordOfNat f.cls.code, f.code.setWidth 16, wordOfNat f.subjectKind.code, wordOfNat f.subject,
            flagWord f.positionValid, wordOf f.position]))

/-! ### Orders on a station's own record -/

/-- R173: ACK_EVENTS. R174: SET_ENABLES. -/
def Obligations.AckEventsAndSetEnables : Prop :=
  (∀ (s : State) (o : OrderFrame), s.Kept → s.Takes o →
     exec (.ackEvents o) s = .next (
       if o.target ≠ 0 then s.answered codeAckEvents o .refused .badTarget []
       else
         match o.words with
         | [lo, hi] =>
           let named : EventSet := hi.extractLsb' 0 7 ++ lo
           let r := s.station o.station
           let left := r.status &&& ~~~named
           setLines <|
             (s.setStation o.station
               { r with status := left, reports := if named.getLsbD 10 then [] else r.reports }).answered
               codeAckEvents o .done .noReason (setWords left)
         | _ => s.answered codeAckEvents o .refused .badOperand [])) ∧
  (∀ (s : State) (o : OrderFrame), s.Kept → s.Takes o →
     exec (.setEnables o) s = .next (
       if o.target ≠ 0 then s.answered codeSetEnables o .refused .badTarget []
       else
         match o.words with
         | [lo, hi] =>
           let r := s.station o.station
           setLines <|
             (s.setStation o.station { r with enable := hi.extractLsb' 0 7 ++ lo }).answered
               codeSetEnables o .done .noReason (setWords r.status)
         | _ => s.answered codeSetEnables o .refused .badOperand []))

/-- R162: an arrival of any code whose tag is in use, or that finds four outstanding orders, is not taken; the intake refusal it is
given leaves its list when it has been sent. An order whose code Table 9-4 does not have is refused UNKNOWN_ORDER before
any other check. -/
def Obligations.ArrivalsAreRefused : Prop :=
  (∀ (s : State) (o : OrderFrame), s.Kept → s.heldDown = false → (s.station o.station).attached = true →
    ∀ c why, ((∃ mk ∈ orderCommands, c = mk o) ∨ ∃ code, c = .unknownOrder code o) →
      why = (if ∃ e ∈ (s.station o.station).intake, e.tag = o.tag then .tagInUse else .intakeFull) →
      ((∃ e ∈ (s.station o.station).intake, e.tag = o.tag) ∨ 4 ≤ (s.station o.station).intake.length) →
      let r := { s.station o.station with receiver := .hunting }
      exec c s = .next (
        if ((r.replies.filter fun p => p.serial == none).length) < 4 then
          s.setStation o.station { r with replies := r.replies ++ [⟨none, o.tag, .refused, why, []⟩] }
        else setLines (s.setStation o.station (r.told 22)))) ∧
  (∀ (s : State) (n : Station) (p : Placed) (rest : List Placed), s.Kept → s.heldDown = false →
    (s.station n).replies = p :: rest → p.serial = none →
    exec (.replySent n) s = .next (s.setStation n { s.station n with replies := rest, tx := replyBytes p })) ∧
  (∀ (s : State) (code : Byte) (o : OrderFrame), s.Kept → s.Takes o → orderCodes.contains code = false →
     exec (.unknownOrder code o) s = .next (s.answered code o .refused .unknownOrder []))

/-- R163, R167: the oldest placed reply is sent whole, its bytes as Table 9-2 lays them out, and its order is
outstanding no longer. -/
def Obligations.ReplySentEndsTheOrder : Prop :=
  ∀ (s : State) (n : Station) (p : Placed) (rest : List Placed) (serial : Nat), s.Kept → s.heldDown = false →
    (s.station n).replies = p :: rest → p.serial = some serial →
    ∃ check : Byte,
      let counted := [BitVec.ofNat 8 (3 + 2 * p.data.length), p.tag, p.result.code, p.reason.code]
        ++ p.data.flatMap fun w => [w.extractLsb' 8 8, w.extractLsb' 0 8]
      byteSum (counted ++ [check]) = 0 ∧
      exec (.replySent n) s = .next (s.setStation n
        { s.station n with
          replies := rest
          tx := 0x5A :: (counted ++ [check])
          intake := (s.station n).intake.filter fun e => e.serial != serial })

/-- R159, R160: a wrong check byte, a stray byte, an invalid length, and a gap or a character error within a frame being
assembled each discard what was received, raise FRAME_ERROR and leave the port hunting; a detached port receives nothing
(R154). A gap or a character error at a hunting port ends no frame and changes nothing (R159; log entry 32). How the rows
stand for the bytes is the model's (log entry 6). -/
def Obligations.FrameErrorsLeaveThePortHunting : Prop :=
  (∀ (s : State) (n : Station) (c : Instr), s.Kept → s.heldDown = false →
    ((∃ frame, c = .checkByteFailed n frame ∧ failedFrame frame = true) ∨
      (∃ b, c = .strayByte n b ∧ b ≠ 0xA5 ∧ (s.station n).receiver = .hunting) ∨
      (∃ b, c = .invalidLength n b ∧ ¬(b.toNat % 2 = 1 ∧ 5 ≤ b.toNat ∧ b.toNat ≤ 53)) ∨
      ((c = .frameGap n ∨ c = .characterError n) ∧ (s.station n).receiver ≠ .hunting)) →
    exec c s = .next (
      if (s.station n).attached then
        setLines (s.setStation n
          { s.station n with receiver := .hunting, status := (s.station n).status ||| 1#23 <<< 22 })
      else s)) ∧
  (∀ (s : State) (n : Station), s.Kept → s.heldDown = false → (s.station n).receiver = .hunting →
    exec (.frameGap n) s = .next s ∧ exec (.characterError n) s = .next s)

/-! ### Claims -/

/-- R43: READY. R44: RESET_MOVER. -/
def Obligations.ReadyAndResetMover : Prop :=
  (∀ (s : State) (o : OrderFrame), s.Kept → s.Takes o →
     exec (.ready o) s = .next (
       match moverOf o.target with
       | none => s.answered codeReady o .refused .badTarget []
       | some m =>
         if o.words ≠ [] then s.answered codeReady o .refused .badOperand []
         else
           (s.attendedBy o.station m).answered codeReady o .done .noReason
             [wordOfNat (s.mover m).state.code, wordOf (s.mover m).position, flagWord (s.mover m).valid,
              (match (s.mover m).target with | some t => wordOf t | none => -1), wordOfNat (s.mover m).attempts,
              wordOfNat (s.claim m).holder.code, wordOfNat (s.claim m).ending.code,
              wordOfNat (s.mover m).lastFault.code])) ∧
  (∀ (s : State) (o : OrderFrame), s.Kept → s.Takes o →
     exec (.resetMover o) s = .next (
       match moverOf o.target with
       | none => s.answered codeResetMover o .refused .badTarget []
       | some m =>
         let r := s.mover m
         if o.words ≠ [] then s.answered codeResetMover o .refused .badOperand []
         else if ¬((s.claim m).holder = .station o.station ∧ (s.claim m).ending = .notEnding) then
           s.answered codeResetMover o .refused .notHolder []
         else if isActive r.state = true then
           (s.attendedBy o.station m).answered codeResetMover o .refused .busy []
         else
           let next : MoverRecord :=
             if r.state = .faulted then
               { r with state := if r.valid then .halted else .unhomed, attempts := 0, poll := .idle }
             else r
           ((s.attendedBy o.station m).setMover m next).answered codeResetMover o .done .noReason
             [wordOfNat next.state.code]))

/-- R68: RENEW; `ClaimLaw` gives the kind of the lease that is held. R70: CLAIM, with the wait of R71. -/
def Obligations.RenewAndClaim : Prop :=
  (∀ (s : State) (o : OrderFrame), s.Kept → s.ClaimLaw → s.Takes o →
     exec (.renew o) s = .next (
       match moverOf o.target with
       | none => s.answered codeRenew o .refused .badTarget []
       | some m =>
         let c := s.claim m
         let kind := c.lease.getD .rest
         if o.words ≠ [] then s.answered codeRenew o .refused .badOperand []
         else if ¬(c.holder = .station o.station ∧ c.ending = .notEnding) then
           s.answered codeRenew o .refused .notHolder []
         else
           (s.setClaim m { c with deadline := some (s.now + leaseLength kind) }).answered codeRenew o .done .noReason
             [wordOfNat kind.code, wordOfNat (leaseLength kind / 100)])) ∧
  (∀ (s : State) (o : OrderFrame), s.Kept → s.ClaimLaw → s.Takes o →
     exec (.claim o) s = .next (
       match moverOf o.target with
       | none => s.answered codeClaim o .refused .badTarget []
       | some m =>
         let c := s.claim m
         let mine := Holder.station o.station
         if o.words ≠ [] then s.answered codeClaim o .refused .badOperand []
         else if (s.profile o.station).movers.get m = false then s.answered codeClaim o .refused .noAuthority []
         else if c.holder = mine ∧ c.ending ≠ .notEnding then s.answered codeClaim o .refused .busy []
         else if c.holder = .nobody then
           (s.setClaim m
             { c with holder := mine, ending := .notEnding, lease := some .rest, deadline := some (s.now + 120000) }
             ).answered codeClaim o .done .noReason []
         else if c.holder = mine then
           (s.setClaim m { c with deadline := some (s.now + leaseLength (c.lease.getD .rest)) }).answered
             codeClaim o .done .noReason []
         else if o.attrs.getLsbD 2 = false then
           s.answered codeClaim o .refused .heldBy [wordOfNat c.holder.code]
         else if ∃ w ∈ c.waiters, w.station = o.station then s.answered codeClaim o .refused .busy []
         else (s.setClaim m { c with waiters := c.waiters ++ [s.nextRef o] }).entered codeClaim o))

/-! ### Conditions -/

/-- R93: CLEAR_ESTOP. R95: CLEAR_SWIMMER. -/
def Obligations.ClearEstopAndClearSwimmer : Prop :=
  (∀ (s : State) (o : OrderFrame), s.Kept → s.Takes o →
     exec (.clearEstop o) s = .next (
       if o.target ≠ 0 then s.answered codeClearEstop o .refused .badTarget []
       else if o.words ≠ [] then s.answered codeClearEstop o .refused .badOperand []
       else if (s.profile o.station).mode = false then s.answered codeClearEstop o .refused .noAuthority []
       else if s.cond.bowOpen ∨ s.cond.sternOpen ∨ s.cond.garageOpen then
         s.answered codeClearEstop o .refused .permitEstop []
       else if s.cond.latch then
         setLines <|
           (evaluateForces (raiseAll .estopChange { s with cond := { s.cond with latch := false } })).answered
             codeClearEstop o .done .noReason [0]
       else s.answered codeClearEstop o .done .noReason [0])) ∧
  (∀ (s : State) (o : OrderFrame), s.Kept → s.Takes o →
     exec (.clearSwimmer o) s = .next (
       if o.target ≠ 0 then s.answered codeClearSwimmer o .refused .badTarget []
       else if o.words ≠ [] then s.answered codeClearSwimmer o .refused .badOperand []
       else if (s.profile o.station).attend = false then s.answered codeClearSwimmer o .refused .noAuthority []
       else if s.cond.matOccupied then s.answered codeClearSwimmer o .refused .permitSwimmer []
       else if s.cond.swimmer then
         setLines <|
           (evaluateForces (raiseAll .swimmerChange { s with cond := { s.cond with swimmer := false } })).answered
             codeClearSwimmer o .done .noReason [0]
       else s.answered codeClearSwimmer o .done .noReason [0]))

/-- R94, R96: SET_SWIMMER, where every mover but the hatch is attended or neither in a motion state nor RECOVERING; and
the halts the flag raises in the others, moving and RECOVERING (R37; with the link lost in RECOVERING, log entry 20). -/
def Obligations.SetSwimmerSetsTheFlag : Prop :=
  (∀ (s : State) (o : OrderFrame), s.Kept → s.Takes o →
    (∀ m, m ≠ .hatch → (s.mover m).attended = true ∨ isMotionOrRecovering (s.mover m).state = false) →
    exec (.setSwimmer o) s = .next (
      if o.target ≠ 0 then s.answered codeSetSwimmer o .refused .badTarget []
      else if o.words ≠ [] then s.answered codeSetSwimmer o .refused .badOperand []
      else if s.cond.mode = .underway then s.answered codeSetSwimmer o .refused .modeInvalid []
      else if s.cond.swimmer then s.answered codeSetSwimmer o .done .noReason [1]
      else
        setLines <|
          (evaluateForces (raiseAll .swimmerChange { s with cond := { s.cond with swimmer := true } })).answered
            codeSetSwimmer o .done .noReason [1])) ∧
  (∀ (s : State) (o : OrderFrame), s.Takes o → o.target = 0 → o.words = [] → s.cond.mode ≠ .underway →
    s.cond.swimmer = false →
    ∃ t, exec (.setSwimmer o) s = .next t ∧ t.cond = { s.cond with swimmer := true } ∧ t.AllHear 17 ∧
      t.hasReply (s.nextRef o) .done .noReason [1] ∧
      ∀ m,
        (m ≠ .hatch → (s.mover m).attended = false → s.Halts t m .permitSwimmer) ∧
        (m = .hatch ∨ (s.mover m).attended = true → t.mover m = s.mover m ∧ t.claim m = s.claim m))

/-- R85: the refusals of SET_MODE in the order of its checks, each with its data word; SET_MODE to another mode, every
check passed, and to the present mode. -/
def Obligations.SetModeEntersTheMode : Prop :=
  (∀ (s : State) (o : OrderFrame), s.Kept → s.Takes o →
    let refused := fun (why : Reason) (data : List Word) =>
      exec (.setMode o) s = .next (s.answered codeSetMode o .refused why data)
    (o.target ≠ 0 → refused .badTarget []) ∧
    (o.target = 0 → ¬(∃ w ∈ o.words, o.words = [w] ∧ w.toNat ≤ 3) → refused .badOperand []) ∧
    (o.target = 0 → ∀ w, o.words = [w] → ∀ mode : VesselMode, w.toNat = mode.code →
      ((s.profile o.station).mode = false → refused .noAuthority []) ∧
      ((s.profile o.station).mode = true →
        (s.blank = true → mode ≠ .setup → refused .modeInvalid []) ∧
        ((s.blank = true → mode = .setup) → s.cond.mode ≠ mode →
          (∀ m, isActive (s.mover m).state = true →
            (∀ k, moverNumber k < moverNumber m → isActive (s.mover k).state = false) →
            refused .busy [wordOfNat (moverNumber m)]) ∧
          ((∀ m, isActive (s.mover m).state = false) →
            (mode = .underway →
              let hatchHome := s.movers.hatch.state = .idle ∧ s.movers.hatch.valid = true ∧
                -5 ≤ s.movers.hatch.position ∧ s.movers.hatch.position ≤ 5 ∧
                s.seenMade .hatch s.cond.latchMade = true
              let platformHome := s.movers.platform.state = .idle ∧ s.movers.platform.valid = true ∧
                -5 ≤ s.movers.platform.position ∧ s.movers.platform.position ≤ 5
              let anchorHome := s.seenMade .windlass s.cond.anchorHome = true
              (¬hatchHome → refused .notAtHome [1]) ∧
              (hatchHome → ¬platformHome → refused .notAtHome [2]) ∧
              (hatchHome → platformHome → ¬anchorHome → refused .notAtHome [3]) ∧
              (hatchHome → platformHome → anchorHome → s.cond.swimmer = true → refused .notAtHome [4])) ∧
            (mode = .setup →
              ∀ m n, (s.claim m).holder = .station n → n ≠ o.station →
                (∀ k, moverNumber k < moverNumber m → ∀ j, (s.claim k).holder = .station j → j = o.station) →
                refused .heldBy [wordOfNat (stationNumber n)])))))) ∧
  (∀ (s : State) (o : OrderFrame) (w : Word) (mode : VesselMode), s.Kept → s.Takes o →
    o.target = 0 → o.words = [w] → w.toNat = mode.code → (s.profile o.station).mode = true →
    (s.blank = true → mode = .setup) →
    (s.cond.mode = mode →
      exec (.setMode o) s = .next (s.answered codeSetMode o .done .noReason [w])) ∧
    (s.cond.mode ≠ mode → (∀ m, isActive (s.mover m).state = false) →
      (mode = .underway →
        (s.movers.hatch.state = .idle ∧ s.movers.hatch.valid = true ∧ -5 ≤ s.movers.hatch.position ∧
          s.movers.hatch.position ≤ 5 ∧ s.seenMade .hatch s.cond.latchMade = true) ∧
        (s.movers.platform.state = .idle ∧ s.movers.platform.valid = true ∧ -5 ≤ s.movers.platform.position ∧
          s.movers.platform.position ≤ 5) ∧
        s.seenMade .windlass s.cond.anchorHome = true ∧ s.cond.swimmer = false) →
      (mode = .setup → ∀ m n, (s.claim m).holder = .station n → n = o.station) →
      exec (.setMode o) s = .next (setLines <|
        (evaluateForces (raiseAll .modeChange { s with cond := { s.cond with mode := mode }, staging := none })).answered
          codeSetMode o .done .noReason [w])))

/-- R53, R91, R92, R94: the loops and the mat, where no mover is in a motion state or RECOVERING; the halts the latch
raises in every mover that is, and those the mat raises through the flag in the platform and the windlass unattended (R37,
R96; with the link lost in RECOVERING, log entry 20). That LOOP_OPEN of an OPEN loop, LOOP_CLOSED of a CLOSED loop and
MAT_OCCUPIED of an OCCUPIED mat change nothing is the model's (log entry 32). -/
def Obligations.LoopsAndMatAreKept : Prop :=
  (∀ (s : State) (l : Loop), s.Kept → s.heldDown = false →
    (∀ m, isMotionOrRecovering (s.mover m).state = false) →
    let opened := raiseAll .estopChange (s.setLoop l true)
    (exec (.loopOpen l) s = .next (
      if s.loopIsOpen l then s
      else if s.cond.latch then setLines opened
      else setLines (evaluateForces { opened with cond := { opened.cond with latch := true } }))) ∧
    (exec (.loopClosed l) s = .next (
      if s.loopIsOpen l then setLines (raiseAll .estopChange (s.setLoop l false)) else s)) ∧
    (exec .matOccupied s = .next (
      if s.cond.matOccupied then s
      else
        let trodden := { s with cond := { s.cond with matOccupied := true } }
        if s.cond.swimmer then trodden
        else
          setLines (evaluateForces (raiseAll .swimmerChange
            { s with cond := { s.cond with matOccupied := true, swimmer := true } })))) ∧
    exec .matClear s = .next { s with cond := { s.cond with matOccupied := false } }) ∧
  (∀ (s : State) (l : Loop), s.heldDown = false → s.loopIsOpen l = false → s.cond.latch = false →
    ∃ t, exec (.loopOpen l) s = .next t ∧ t.cond = { (s.setLoop l true).cond with latch := true } ∧
      t.loopIsOpen l = true ∧ t.AllHear 16 ∧
      ∀ m, s.Halts t m .permitEstop ∧
        ((s.mover m).state = .recovering → (s.mover m).stopConfirmed = true →
          isActive (t.mover m).state = false)) ∧
  (∀ s : State, s.heldDown = false → s.cond.matOccupied = false → s.cond.swimmer = false →
    ∃ t, exec .matOccupied s = .next t ∧ t.cond = { s.cond with matOccupied := true, swimmer := true } ∧ t.AllHear 17 ∧
      ∀ m,
        (m ≠ .hatch → (s.mover m).attended = false → s.Halts t m .permitSwimmer) ∧
        (m = .hatch ∨ (s.mover m).attended = true → t.mover m = s.mover m ∧ t.claim m = s.claim m))

/-! ### Points, scenes and windows -/

/-- R3, R4, R20: what a write sets, for every writable point; the other points keep everything, and nothing but the
Point Table and the Outbound Queue is touched. R19, R22: the forces active for a point are the entries that name it with
a level valid for its kind and whose condition holds. R5, R122: when a write is handed, and where it is placed: by case
(a) or (b) in the open frame of its module, which closes at its eighth item (R123), by (c) in a new open frame, by (d) as
the write-pending mark; R7: the delivery state of the point. -/
def Obligations.WriteSetsTheLevels : Prop :=
  (∀ (s : State) (p : Nat) (level fade : Int) (w : Writer) (e : PointEntry), s.writable? p = some e →
    let forced := s.activeForces p
    ∃ t e', writePoint p level fade w s = t ∧ t.writable? p = some e' ∧
      e'.requested = level ∧ e'.lastWriter = w ∧ e'.lastFade = fade ∧
      (forced = [] → e'.effective = level) ∧
      (∀ x ∈ forced, x ≤ e'.effective) ∧ (forced ≠ [] → e'.effective ∈ forced) ∧
      e'.kind = e.kind ∧ e'.zone = e.zone ∧ e'.binding = e.binding ∧ e'.confirmed = e.confirmed ∧
      (∀ q, q ≠ p → t.points[q]? = s.points[q]?) ∧
      t = { s with points := t.points, queue := t.queue }) ∧
  (∀ (s : State) (p : Nat) (e : PointEntry) (x : Int), s.point? p = some e →
    let holds := fun c : ForceCondition =>
      (c = .platformBelowDeck ∧ s.cond.deckSwitch = true) ∨
      (c = .moverActive ∧ ∃ m, isActive (s.mover m).state = true) ∨
      (c = .estop ∧ s.cond.latch = true) ∨ (c = .swimmer ∧ s.cond.swimmer = true) ∨
      (c = .underway ∧ s.cond.mode = .underway) ∨ (c = .hatchOpen ∧ s.cond.hatchClosed = false)
    let valid := (e.kind = .switched ∧ (x = 0 ∨ x = 1000)) ∨
      ((e.kind = .dimmed ∨ e.kind = .shade) ∧ 0 ≤ x ∧ x ≤ 1000) ∨ (e.kind = .climate ∧ 150 ≤ x ∧ x ≤ 320)
    (x ∈ s.activeForces p ↔ valid ∧ ∃ f ∈ s.forces, f.point = p ∧ f.level = x ∧ holds f.condition)) ∧
  ∀ (s : State) (p : Nat) (level fade : Int) (w : Writer) (e : PointEntry), s.writable? p = some e →
    let t := writePoint p level fade w s
    let b := s.bindingInForce e
    let handed := (s.module b.module).present = true ∧
      (largestOr level (s.activeForces p) ≠ e.effective ∨ s.activeForces p = [] ∨ e.delivery = .faulted)
    let noOpen := ∀ f ∈ s.queue, ¬(f.module = b.module ∧ f.isOpen = true)
    let item : Item := ⟨p, b, fade, none, .live⟩
    let same := fun i : Item => i.point == p && i.binding == b && i.tie == .live
    (∀ e', t.writable? p = some e' →
      (handed → e.delivery = .settled ∨ e.delivery = .lost → e'.delivery = .queued) ∧
      (¬handed ∨ (e.delivery ≠ .settled ∧ e.delivery ≠ .lost) → e'.delivery = e.delivery) ∧
      (e'.writePending = true ↔ e.writePending = true ∨ (handed ∧ noOpen ∧ 18 ≤ s.queue.length))) ∧
    (¬handed ∨ e.writePending = true → t.queue = s.queue) ∧
    (handed → e.writePending = false → noOpen →
      t.queue =
        if s.queue.length < 18 then
          s.queue ++
            [{ module := b.module, body := .levels [item], isOpen := true, mergeAt := s.now + 40, stage := .unsent,
               attempt := 0, marks := [], seq := none, retired := false }]
        else s.queue) ∧
    (handed → e.writePending = false → ¬noOpen →
      t.queue = s.queue.map fun f =>
        if f.module = b.module ∧ f.isOpen = true then
          if f.items.any same = true then
            f.withItems (f.items.map fun i => if same i = true then { i with fade := fade } else i)
          else
            { f.withItems (f.items ++ [item]) with
              mergeAt := s.now + 40, isOpen := decide (f.items.length + 1 < 8) }
        else f)

/-- R13: the refusals of SET_POINT in the order of its checks (R1, R2), and SET_POINT that no watch window of another
station catches. -/
def Obligations.SetPointIsApplied : Prop :=
  (∀ (s : State) (o : OrderFrame), s.Kept → s.Takes o →
    let refused := fun why : Reason => exec (.setPoint o) s = .next (s.answered codeSetPoint o .refused why [])
    (s.point? o.target.toNat = none → refused .badTarget) ∧
    (∀ e, s.point? o.target.toNat = some e →
      (e.kind = .sense → refused .badTarget) ∧
      (e.kind ≠ .sense → o.words.length ≠ 2 → refused .badOperand) ∧
      (e.kind ≠ .sense → ∀ level fade, o.words = [level, fade] →
        let valid := (e.kind = .switched ∧ (level.toInt = 0 ∨ level.toInt = 1000)) ∨
          ((e.kind = .dimmed ∨ e.kind = .shade) ∧ 0 ≤ level.toInt ∧ level.toInt ≤ 1000) ∨
          (e.kind = .climate ∧ 150 ≤ level.toInt ∧ level.toInt ≤ 320)
        ¬(valid ∧ 0 ≤ fade.toInt ∧ fade.toInt ≤ 600) → refused .badOperand))) ∧
  (∀ (s : State) (o : OrderFrame) (e : PointEntry) (level fade : Word), s.Kept → s.Takes o →
    s.writable? o.target.toNat = some e → o.words = [level, fade] →
    levelValid e.kind level.toInt = true → 0 ≤ fade.toInt → fade.toInt ≤ 600 →
    (∀ i : Fin 6, s.windows[i].isOpen = true → s.windows[i].covers o.target.toNat = true →
      windowOwner i = o.station) →
    exec (.setPoint o) s = .next (
      (writePoint o.target.toNat level.toInt fade.toInt (.station o.station) s).answered codeSetPoint o .done
        (if s.activeForces o.target.toNat = [] then .noReason else .forced)
        [wordOf (largestOr level.toInt (s.activeForces o.target.toNat))]))

/-- R108 to R110: SET_POINT that a HOLD window of another station catches, and no REPORT window: held for 30 s under
the first number, counting upward from the next hold number and wrapping from 255 to 0, that no entry uses; unanswered,
HOLD_PENDING raised in each owner; refused HOLD_FULL when eight are held. -/
def Obligations.SetPointIsHeld : Prop :=
  ∀ (s : State) (o : OrderFrame) (e : PointEntry) (level fade : Word), s.Kept → s.Takes o →
    s.writable? o.target.toNat = some e → o.words = [level, fade] →
    levelValid e.kind level.toInt = true → 0 ≤ fade.toInt → fade.toInt ≤ 600 →
    let catching := fun i : Fin 6 =>
      s.windows[i].isOpen && s.windows[i].covers o.target.toNat && windowOwner i != o.station
    (∃ i, catching i = true) → (∀ i, catching i = true → s.windows[i].isHold = true) →
    (s.held.length = 8 → exec (.setPoint o) s = .next (s.answered codeSetPoint o .refused .holdFull [])) ∧
    (s.held.length < 8 →
      ∃ t number marks, exec (.setPoint o) s = .next t ∧
        t.held = s.held ++
          [⟨number, s.nextRef o, .setPoint o.target.toNat level.toInt fade.toInt, 0, marks, s.now + 30000⟩] ∧
        (∀ h ∈ s.held, h.hold ≠ number) ∧ t.nextHold = number + 1 ∧
        (∃ d, d ≤ s.held.length ∧ number = s.nextHold + BitVec.ofNat 8 d ∧
          ∀ j, j < d → ∃ h ∈ s.held, h.hold = s.nextHold + BitVec.ofNat 8 j) ∧
        (∀ i : Fin 6, marks.getLsbD i.val = catching i) ∧
        (∀ n, (t.station n).status = if (∃ i, catching i = true ∧ windowOwner i = n) ∧ (s.station n).attached
          then (s.station n).status ||| 1#23 <<< 8 else (s.station n).status) ∧
        (∀ n, (t.station n).replies = (s.station n).replies) ∧ t.points = s.points ∧ t.queue = s.queue)

/-- R109: SET_POINT that only REPORT windows of other stations catch: one report joins the list of each owner, the oldest
of nine leaving it, WATCH_REPORT is raised in it, and the order is applied and answered. R108, R110: one that a HOLD window
catches, whatever REPORT windows catch it too: HOLD_FULL with eight orders held, and no report; else it is held with the
marks of the HOLD windows alone, unanswered, and each owner of a REPORT window has its report at once. -/
def Obligations.WatchReportsAreMade : Prop :=
  (∀ (s : State) (o : OrderFrame) (e : PointEntry) (level fade : Word), s.Kept → s.Takes o →
    s.writable? o.target.toNat = some e → o.words = [level, fade] →
    levelValid e.kind level.toInt = true → 0 ≤ fade.toInt → fade.toInt ≤ 600 →
    let catching := fun i : Fin 6 =>
      s.windows[i].isOpen && s.windows[i].covers o.target.toNat && windowOwner i != o.station
    (∀ i, catching i = true → s.windows[i].isHold = false) →
    ∃ t, exec (.setPoint o) s = .next t ∧
      (∀ n, (t.station n).reports =
        if ∃ i, catching i = true ∧ windowOwner i = n then
          ((s.station n).reports ++ [(⟨o.station, false, o.target.toNat, level.toInt⟩ : Report)]).drop
            ((s.station n).reports.length + 1 - 8)
        else (s.station n).reports) ∧
      (∀ n, (t.station n).status = if (∃ i, catching i = true ∧ windowOwner i = n) ∧ (s.station n).attached
        then (s.station n).status ||| 1#23 <<< 10 else (s.station n).status) ∧
      t.hasReply (s.nextRef o) .done (if s.activeForces o.target.toNat = [] then .noReason else .forced)
        [wordOf (largestOr level.toInt (s.activeForces o.target.toNat))] ∧
      t.held = s.held ∧
      t.points = (writePoint o.target.toNat level.toInt fade.toInt (.station o.station) s).points ∧
      t.queue = (writePoint o.target.toNat level.toInt fade.toInt (.station o.station) s).queue) ∧
  (∀ (s : State) (o : OrderFrame) (e : PointEntry) (level fade : Word), s.Kept → s.Takes o →
    s.writable? o.target.toNat = some e → o.words = [level, fade] →
    levelValid e.kind level.toInt = true → 0 ≤ fade.toInt → fade.toInt ≤ 600 →
    let caught := fun isHold => s.Caught o.station isHold [o.target.toNat]
    (∃ i, caught true i = true) →
    (8 ≤ s.held.length → exec (.setPoint o) s = .next (s.answered codeSetPoint o .refused .holdFull [])) ∧
    (s.held.length < 8 →
      ∃ t number marks, exec (.setPoint o) s = .next t ∧
        t.held = s.held ++
          [⟨number, s.nextRef o, .setPoint o.target.toNat level.toInt fade.toInt, 0, marks, s.now + 30000⟩] ∧
        (∀ h ∈ s.held, h.hold ≠ number) ∧ t.nextHold = number + 1 ∧
        (∀ i : Fin 6, marks.getLsbD i.val = caught true i) ∧
        s.Watched t caught ⟨o.station, false, o.target.toNat, level.toInt⟩ ∧
        (∀ n, (t.station n).replies = (s.station n).replies) ∧ t.points = s.points ∧ t.queue = s.queue))

/-- R16: RECALL_SCENE that no watch window of another station catches: the items that fit are applied in list order. Its
refusals in the order of its checks (R14, R89); and, caught by a HOLD window of another station (R108, R110), whatever
REPORT windows catch it too, HOLD_FULL when eight orders are held, else held with the scene that was judged, HOLD_PENDING
raised in each owner of a HOLD window and the zone report given to each of a REPORT window. Caught by REPORT windows
alone it is applied, and the zone reports are given (R109). -/
def Obligations.RecallSceneIsApplied : Prop :=
  (∀ (s : State) (o : OrderFrame) (w : Word) (found : Nat) (rec : SceneRecord), s.Kept → s.Takes o →
    o.target.toNat < 48 → o.words = [w] → w.toNat ≤ 7 →
    (if s.cond.mode = .underway ∧ (s.zone o.target.toNat).navSensitive = true then (s.zone o.target.toNat).dark
      else some w.toNat) = some found →
    s.scene? o.target.toNat found = some rec →
    (∀ i : Fin 6, ∀ x ∈ rec.items, s.windows[i].isOpen = true → s.windows[i].covers x.point = true →
      windowOwner i = o.station) →
    let fits := rec.items.filter (s.itemFits o.target.toNat)
    exec (.recallScene o) s = .next (
      (fits.foldl (fun s i => writePoint i.point i.level i.fade (.scene o.station) s) s).answered codeRecallScene o .done
        (if ∃ i ∈ fits, s.activeForces i.point ≠ [] then .forced else .noReason)
        [wordOfNat found, wordOfNat fits.length, wordOfNat (rec.items.length - fits.length)])) ∧
  (∀ (s : State) (o : OrderFrame), s.Kept → s.Takes o →
    let zone := o.target.toNat
    let refused := fun why : Reason => exec (.recallScene o) s = .next (s.answered codeRecallScene o .refused why [])
    (48 ≤ zone → refused .badTarget) ∧
    (zone < 48 → o.words.length ≠ 1 → refused .badOperand) ∧
    (zone < 48 → ∀ w, o.words = [w] →
      (8 ≤ w.toNat → refused .badOperand) ∧
      (w.toNat ≤ 7 →
        let judged := if s.cond.mode = .underway ∧ (s.zone zone).navSensitive = true then (s.zone zone).dark
          else some w.toNat
        (judged = none → refused .modeInvalid) ∧
        (∀ found, judged = some found →
          (s.scene? zone found = none → refused .badOperand) ∧
          (∀ rec, s.scene? zone found = some rec →
            let catching := fun i : Fin 6 =>
              s.windows[i].isOpen && windowOwner i != o.station &&
                rec.items.any fun x => s.windows[i].covers x.point
            (∃ i, catching i = true ∧ s.windows[i].isHold = true) →
            (8 ≤ s.held.length → refused .holdFull) ∧
            (s.held.length < 8 →
              ∃ t number marks, exec (.recallScene o) s = .next t ∧
                t.held = s.held ++ [⟨number, s.nextRef o, .recall zone w.toNat, found, marks, s.now + 30000⟩] ∧
                (∀ h ∈ s.held, h.hold ≠ number) ∧ t.nextHold = number + 1 ∧
                (∀ i : Fin 6, marks.getLsbD i.val = (catching i && s.windows[i].isHold)) ∧
                s.Watched t (fun isHold => s.Caught o.station isHold (rec.items.map fun x => x.point))
                  ⟨o.station, true, zone, found⟩ ∧
                (∀ n, (t.station n).replies = (s.station n).replies) ∧ t.points = s.points ∧ t.queue = s.queue)))))) ∧
  (∀ (s : State) (o : OrderFrame) (w : Word) (found : Nat) (rec : SceneRecord), s.Kept → s.Takes o →
    o.target.toNat < 48 → o.words = [w] → w.toNat ≤ 7 →
    (if s.cond.mode = .underway ∧ (s.zone o.target.toNat).navSensitive = true then (s.zone o.target.toNat).dark
      else some w.toNat) = some found →
    s.scene? o.target.toNat found = some rec →
    let caught := fun isHold => s.Caught o.station isHold (rec.items.map fun x => x.point)
    (∀ i, caught true i = false) →
    let fits := rec.items.filter (s.itemFits o.target.toNat)
    let applied := fits.foldl (fun s i => writePoint i.point i.level i.fade (.scene o.station) s) s
    ∃ t, exec (.recallScene o) s = .next t ∧ s.Watched t caught ⟨o.station, true, o.target.toNat, found⟩ ∧
      t.hasReply (s.nextRef o) .done (if ∃ i ∈ fits, s.activeForces i.point ≠ [] then .forced else .noReason)
        [wordOfNat found, wordOfNat fits.length, wordOfNat (rec.items.length - fits.length)] ∧
      t.held = s.held ∧ t.points = applied.points ∧ t.queue = applied.queue)

/-- R17, R18: STORE_SCENE with its checks passed, and ERASE_SCENE: one record of the store is put or removed, and no
point changes. Their refusals in the order of R17's checks and of R18; which items fail R15, and which is the first. Where
the authority check stands among those of R17 and R18 is the model's (log entry 10), and so is that an item naming no
configured point is BAD_ITEM and not BAD_TARGET (log entry 43). -/
def Obligations.ScenesAreStoredAndErased : Prop :=
  (∀ (s : State) (o : OrderFrame) (w : Word) (rest : List Word) (items : List SceneItem), s.Kept → s.Takes o →
    o.target.toNat < 48 → o.words = w :: rest → sceneItems rest = some items →
    (s.profile o.station).sceneEdit = true →
    let zone := o.target.toNat
    let put := fun (scene : Nat) (all : List SceneItem) =>
      ({ s with
        scenes := (s.scenes.filter fun x : SceneRecord => !(x.zone == zone && x.scene == scene)) ++
          [⟨zone, scene, all⟩] } : State).answered codeStoreScene o .done .noReason [wordOfNat all.length]
    (w.toNat ≤ 7 → s.firstBadItem zone 1 [] items = none →
      (s.scene? zone w.toNat).isSome ∨ s.scenes.length < 192 →
      exec (.storeScene o) s = .next (put w.toNat items)) ∧
    (∀ rec, 8 ≤ w.toNat → w.toNat ≤ 15 → s.scene? zone (w.toNat - 8) = some rec →
      s.firstBadItem zone 1 rec.items items = none →
      exec (.storeScene o) s = .next (put (w.toNat - 8) (rec.items ++ items)))) ∧
  (∀ (s : State) (o : OrderFrame) (w : Word), s.Kept → s.Takes o →
    o.target.toNat < 48 → o.words = [w] → w.toNat ≤ 7 → (s.profile o.station).sceneEdit = true →
    exec (.eraseScene o) s = .next (
      ({ s with
        scenes := s.scenes.filter fun x => !(x.zone == o.target.toNat && x.scene == w.toNat) } : State).answered
        codeEraseScene o .done .noReason
        [if ∃ x ∈ s.scenes, x.zone = o.target.toNat ∧ x.scene = w.toNat then 1 else 0])) ∧
  (∀ (s : State) (o : OrderFrame), s.Kept → s.Takes o →
    let zone := o.target.toNat
    let refused := fun (why : Reason) (data : List Word) =>
      exec (.storeScene o) s = .next (s.answered codeStoreScene o .refused why data)
    (48 ≤ zone → refused .badTarget []) ∧
    (zone < 48 → o.words = [] → refused .badOperand []) ∧
    (zone < 48 → ∀ w rest, o.words = w :: rest →
      (15 < w.toNat ∨ rest = [] ∨ rest.length % 3 ≠ 0 ∨
          (7 < w.toNat ∧ s.scene? zone (w.toNat - 8) = none) → refused .badOperand []) ∧
      (∀ items base, sceneItems rest = some items →
        ((w.toNat ≤ 7 ∧ base = []) ∨
          (7 < w.toNat ∧ w.toNat ≤ 15 ∧ (s.scene? zone (w.toNat - 8)).map (fun r => r.items) = some base)) →
        ((s.profile o.station).sceneEdit = false → refused .noAuthority []) ∧
        ((s.profile o.station).sceneEdit = true →
          (∀ k, s.firstBadItem zone 1 base items = some k → refused .badItem [wordOfNat k]) ∧
          (s.firstBadItem zone 1 base items = none → w.toNat ≤ 7 → s.scene? zone w.toNat = none →
            192 ≤ s.scenes.length → refused .storeFull []))))) ∧
  (∀ (s : State) (zone : Nat) (base items : List SceneItem) (k : Nat),
    let accepted := fun (before : List SceneItem) (x : SceneItem) =>
      (∃ e, s.writable? x.point = some e ∧ e.zone = zone ∧ levelValid e.kind x.level = true) ∧
      0 ≤ x.fade ∧ x.fade ≤ 600 ∧ (∀ y ∈ before, y.point ≠ x.point) ∧ before.length < 16
    (s.firstBadItem zone 1 base items = some k ↔
      ∃ i x, k = i + 1 ∧ items[i]? = some x ∧ ¬accepted (base ++ items.take i) x ∧
        ∀ j y, j < i → items[j]? = some y → accepted (base ++ items.take j) y)) ∧
  (∀ (s : State) (o : OrderFrame), s.Kept → s.Takes o →
    let refused := fun why : Reason => exec (.eraseScene o) s = .next (s.answered codeEraseScene o .refused why [])
    (48 ≤ o.target.toNat → refused .badTarget) ∧
    (o.target.toNat < 48 → o.words.length ≠ 1 → refused .badOperand) ∧
    (o.target.toNat < 48 → ∀ w, o.words = [w] →
      (7 < w.toNat → refused .badOperand) ∧
      (w.toNat ≤ 7 → (s.profile o.station).sceneEdit = false → refused .noAuthority)))

/-- R106, R107: OPEN_WATCH and CLOSE_WATCH of a window whose closing releases no held order, the window CLOSED or OPEN
before; their refusals in the order of their checks. R107, R111: the closing of an OPEN window, by either order: the entries
that bear its mark alone leave the list and are released oldest first, each answered, and applied or refused, as it is
judged anew, with HOLD_RESOLVED in its orderer; the other entries lose the mark. -/
def Obligations.WindowsOpenAndClose : Prop :=
  (∀ (s : State) (o : OrderFrame) (i : Fin 6), s.Kept → s.Takes o → windowOwner i = o.station →
    o.target.toNat = i.val % 2 → (∀ h ∈ s.held, h.marks ≠ 0) →
    (s.windows[i].isOpen = true →
      ∀ h ∈ s.held, h.marks.getLsbD i.val = true → ∃ j : Fin 6, j ≠ i ∧ h.marks.getLsbD j.val = true) →
    let held :=
      if s.windows[i].isOpen then s.held.map fun h => { h with marks := h.marks &&& ~~~(1#6 <<< i.val) } else s.held
    (∀ base width kind : Word, o.words = [base, width, kind] →
      base.toNat < 512 → width.toNat ≤ 4 → kind.toNat ≤ 1 → base.toNat % 2 ^ width.toNat = 0 →
      exec (.openWatch o) s = .next (
        ({ s with
          windows := s.windows.set i ⟨true, base.toNat, width.toNat, kind.toNat == 1⟩, held := held } : State).answered
          codeOpenWatch o .done .noReason [wordOfNat (2 ^ width.toNat), 0])) ∧
    (o.words = [] →
      exec (.closeWatch o) s = .next (
        ({ s with
          windows := s.windows.set i ⟨false, s.windows[i].base, s.windows[i].width, s.windows[i].isHold⟩
          held := held } : State).answered codeCloseWatch o .done .noReason [0]))) ∧
  (∀ (s : State) (o : OrderFrame), s.Kept → s.Takes o →
    let openRefused := fun why : Reason => exec (.openWatch o) s = .next (s.answered codeOpenWatch o .refused why [])
    let closeRefused := fun why : Reason =>
      exec (.closeWatch o) s = .next (s.answered codeCloseWatch o .refused why [])
    (2 ≤ o.target.toNat → openRefused .badTarget ∧ closeRefused .badTarget) ∧
    (o.target.toNat < 2 →
      (o.words ≠ [] → closeRefused .badOperand) ∧
      (o.words.length ≠ 3 → openRefused .badOperand) ∧
      (∀ base width kind : Word, o.words = [base, width, kind] →
        512 ≤ base.toNat ∨ 4 < width.toNat ∨ 1 < kind.toNat ∨ base.toNat % 2 ^ width.toNat ≠ 0 →
        openRefused .badOperand))) ∧
  (∀ (s : State) (o : OrderFrame) (i : Fin 6), s.Kept → s.HeldLaw → s.Takes o → windowOwner i = o.station →
    o.target.toNat = i.val % 2 → s.windows[i].isOpen = true → (∀ h ∈ s.held, h.what.InWords) →
    let mark : BitVec 6 := 1#6 <<< i.val
    let released := s.held.filter fun h => h.marks == mark
    let left := (s.held.filter fun h => h.marks != mark).map fun h => { h with marks := h.marks &&& ~~~mark }
    let wrote := released.foldl (fun u h => s.writesOf u h) s
    let closed := fun (t : State) (window : Window) (data : List Word) =>
      t.windows = s.windows.set i window ∧ t.held = left ∧ t.points = wrote.points ∧ t.queue = wrote.queue ∧
      (∀ h ∈ released, s.Released t h) ∧ t.hasReply (s.nextRef o) .done .noReason data
    (o.words = [] →
      ∃ t, exec (.closeWatch o) s = .next t ∧
        closed t ⟨false, s.windows[i].base, s.windows[i].width, s.windows[i].isHold⟩ [wordOfNat released.length]) ∧
    (∀ base width kind : Word, o.words = [base, width, kind] →
      base.toNat < 512 → width.toNat ≤ 4 → kind.toNat ≤ 1 → base.toNat % 2 ^ width.toNat = 0 →
      ∃ t, exec (.openWatch o) s = .next t ∧
        closed t ⟨true, base.toNat, width.toNat, kind.toNat == 1⟩
          [wordOfNat (2 ^ width.toNat), wordOfNat released.length]))

/-! ### Claims and the local controls -/

/-- R69, R72, R73, R78: a claim let go while its mover rests, with nobody waiting and no control of the mover pressed,
becomes free: by RELEASE, by the expiry of the lease, by the end of the local hold. With a waiter whose profile still
has the mover it passes to that waiter. By each of the three with any list and any controls: to the oldest waiter whose
profile has the mover, the waiters before it refused, or else free, or LOCAL's by a pressed control. The refusals of
RELEASE in the order of their checks. That an expiry finds the clock at its deadline (`max s.now d`, here and below) is
the model's (log entry 2). -/
def Obligations.ClaimIsLetGoAtRest : Prop :=
  (∀ (s : State) (m : Mover) (n : Station), s.Kept → s.heldDown = false → isActive (s.mover m).state = false →
    (∀ c ∈ controlsOf m, s.control c ≠ .passed) →
    let c := s.claim m
    let free := s.setClaim m
      { holder := .nobody, lease := none, deadline := none, ending := .notEnding, override := none, localHold := none,
        passPending := false, releaseOrder := none, waiters := [] }
    (∀ o, s.Takes o → o.station = n → moverOf o.target = some m → o.words = [] →
      c.holder = .station n → c.ending = .notEnding → c.waiters = [] →
      exec (.release o) s = .next (free.answered codeRelease o .done .noReason [])) ∧
    (∀ d, c.holder = .station n → c.ending = .notEnding → c.deadline = some d → c.waiters = [] →
      exec (.leaseExpiry m) s =
        .next (setLines ({ free with now := max s.now d }.setStation n ((s.station n).told 2)))) ∧
    (∀ d, c.holder = .deck → c.localHold = some d → c.waiters = [] →
      exec (.localHoldExpiry m) s = .next { free with now := max s.now d }) ∧
    (∀ d r rest, c.holder = .station n → c.ending = .notEnding → c.deadline = some d → c.waiters = r :: rest →
      (s.profile r.station).movers.get m = true → (s.station r.station).attached = true →
      (∃ e ∈ (s.station r.station).intake, e.serial = r.serial) →
      ∃ t, exec (.leaseExpiry m) s = .next t ∧
        t.claim m =
          { holder := .station r.station, lease := some .rest, deadline := some (max s.now d + 120000),
            ending := .notEnding, override := c.override, localHold := none, passPending := false,
            releaseOrder := none, waiters := rest } ∧
        t.hasReply r .done .noReason [] ∧ (t.station r.station).status.getLsbD 0 = true ∧
        (∀ k, k ≠ m → t.claim k = s.claim k) ∧
        t = { s with now := max s.now d, claims := t.claims, stations := t.stations })) ∧
  (∀ (s : State) (m : Mover) (n : Station), s.Kept → s.heldDown = false → isActive (s.mover m).state = false →
    let c := s.claim m
    let alone := fun t : State =>
      (∀ k, k ≠ m → t.claim k = s.claim k ∧ t.mover k = s.mover k) ∧
      ((∀ x ∈ controlsOf m, s.control x ≠ .passed) → t.mover m = s.mover m)
    (∀ o, s.Takes o → o.station = n → moverOf o.target = some m → o.words = [] →
      c.holder = .station n → c.ending = .notEnding →
      ∃ t, exec (.release o) s = .next t ∧ s.Passed t m s.now c.waiters ∧
        t.hasReply (s.nextRef o) .done .noReason [] ∧ alone t) ∧
    (∀ d, c.holder = .station n → c.ending = .notEnding → c.deadline = some d →
      ∃ t, exec (.leaseExpiry m) s = .next t ∧ t.now = max s.now d ∧ s.Passed t m (max s.now d) c.waiters ∧
        ((s.station n).attached = true → (t.station n).status.getLsbD 2 = true) ∧ alone t) ∧
    (∀ d, c.holder = .deck → c.localHold = some d →
      ∃ t, exec (.localHoldExpiry m) s = .next t ∧ t.now = max s.now d ∧ s.Passed t m (max s.now d) c.waiters ∧
        alone t)) ∧
  (∀ (s : State) (o : OrderFrame), s.Kept → s.Takes o →
    let refused := fun why : Reason => exec (.release o) s = .next (s.answered codeRelease o .refused why [])
    (moverOf o.target = none → refused .badTarget) ∧
    (∀ m, moverOf o.target = some m →
      (o.words ≠ [] → refused .badOperand) ∧
      (o.words = [] → ¬((s.claim m).holder = .station o.station ∧ (s.claim m).ending = .notEnding) →
        refused .notHolder)))

/-- R69, R73, R77: a claim that ends while its mover moves is not let go yet: the mover is halted, with HALTED for a
RELEASE and CLAIM_LOST for an expiry; an override gives the claim to LOCAL at once, of a moving mover with a halt and
CLAIM_LOST, and of one at rest. A RECOVERING mover is halted likewise, or, its halt frame being confirmed, rests at once,
and the ending is completed there (R37, R74; with the link lost, log entry 20); a HALTING mover keeps its halt cause. At an
override either answers its deferred reply with CLAIM_LOST; the pressed control becomes the live press, which waits, or, at
that rest, drives or is spent (R57). R78: the local hold that ends while the mover is active leaves the pass pending. That
an expiry finds the clock at its deadline is the model's (log entry 2). -/
def Obligations.ClaimEndsByOverrideOrWithAHalt : Prop :=
  (∀ (s : State) (m : Mover) (n : Station), s.Kept → s.heldDown = false → isMotion (s.mover m).state = true →
     (s.claim m).holder = .station n → (s.claim m).ending = .notEnding →
     let halts := fun (t : State) (why : Reason) =>
       (t.mover m).state = .halting ∧ (t.mover m).haltCause = some why ∧ (t.haltSlots.get m).isSome = true
     (∀ o, s.Takes o → o.station = n → moverOf o.target = some m → o.words = [] →
       ∃ t, exec (.release o) s = .next t ∧ halts t .halted ∧
         t.claim m = { s.claim m with ending := .releasing, deadline := none, releaseOrder := some (s.nextRef o) } ∧
         ∃ e ∈ (t.station n).intake, e.serial = s.nextSerial ∧ e.stage = .waiting) ∧
     (∀ d, (s.claim m).deadline = some d →
       ∃ t, exec (.leaseExpiry m) s = .next t ∧ halts t .claimLost ∧ t.now = max s.now d ∧
         t.claim m = { s.claim m with ending := .expiring, deadline := none } ∧
         ((s.station n).attached = true → (t.station n).status.getLsbD 2 = true)) ∧
     (∀ d, (s.claim m).override = some d →
       ∃ t, exec (.override m) s = .next t ∧ halts t .claimLost ∧ t.now = max s.now d ∧ (t.mover m).deferred = none ∧
         t.claim m =
           { s.claim m with
             holder := .deck, lease := none, deadline := none, ending := .revoked, override := none } ∧
         ((s.station n).attached = true → (t.station n).status.getLsbD 1 = true) ∧
         ∀ k, (s.station k).attached = true → (t.station k).status.getLsbD 6 = true)) ∧
  (∀ (s : State) (m : Mover) (n : Station) (d : Nat), s.heldDown = false → isActive (s.mover m).state = false →
     (s.claim m).holder = .station n → (s.claim m).ending = .notEnding → (s.claim m).override = some d →
     ∃ t, exec (.override m) s = .next t ∧ t.now = max s.now d ∧
       t.claim m =
         { s.claim m with holder := .deck, lease := none, deadline := none, ending := .notEnding, override := none } ∧
       (∀ k, k ≠ m → t.claim k = s.claim k) ∧
       ((s.station n).attached = true → (t.station n).status.getLsbD 1 = true) ∧
       ∀ k, (s.station k).attached = true → (t.station k).status.getLsbD 6 = true) ∧
  (∀ (s : State) (m : Mover) (n : Station), s.Kept → s.heldDown = false →
     (s.claim m).holder = .station n → (s.claim m).ending = .notEnding →
     let r := s.mover m
     let c := s.claim m
     let names := fun o : OrderFrame => s.Takes o ∧ o.station = n ∧ moverOf o.target = some m ∧ o.words = []
     let releasing := fun o : OrderFrame =>
       { c with ending := .releasing, deadline := none, releaseOrder := some (s.nextRef o) }
     let expiring := { c with ending := .expiring, deadline := none }
     let told := fun t : State => (s.station n).attached = true → (t.station n).status.getLsbD 2 = true
     (r.state = .recovering → r.stopConfirmed = false →
       (∀ o, names o →
         ∃ t, exec (.release o) s = .next t ∧ t.mover m = r.halting .halted ∧ t.claim m = releasing o ∧
           ∃ e ∈ (t.station n).intake, e.serial = s.nextSerial ∧ e.stage = .waiting) ∧
       (∀ d, c.deadline = some d →
         ∃ t, exec (.leaseExpiry m) s = .next t ∧ t.now = max s.now d ∧ t.mover m = r.halting .claimLost ∧
           t.claim m = expiring ∧ told t)) ∧
     (r.state = .recovering → r.stopConfirmed = true → (∀ x ∈ controlsOf m, s.control x ≠ .passed) →
       (∀ o, names o →
         ∃ t, exec (.release o) s = .next t ∧ t.mover m = r.stopped ∧ s.DeferredEnds t r .halted ∧ s.EndTold t r n ∧
           s.Passed t m s.now c.waiters ∧ t.hasReply (s.nextRef o) .done .noReason []) ∧
       (∀ d, c.deadline = some d →
         ∃ t, exec (.leaseExpiry m) s = .next t ∧ t.now = max s.now d ∧ t.mover m = r.stopped ∧
           s.DeferredEnds t r .claimLost ∧ s.EndTold t r n ∧ s.Passed t m (max s.now d) c.waiters ∧ told t)) ∧
     (r.state = .halting →
       (∀ o, names o → exec (.release o) s = .next ((s.setClaim m (releasing o)).entered codeRelease o)) ∧
       (∀ d, c.deadline = some d →
         exec (.leaseExpiry m) s = .next (setLines
           ({ s.setClaim m expiring with now := max s.now d }.setStation n ((s.station n).told 2)))))) ∧
  (∀ (s : State) (m : Mover) (d : Nat), s.Kept → s.heldDown = false → isActive (s.mover m).state = true →
     (s.claim m).localHold = some d →
     exec (.localHoldExpiry m) s = .next
       { s.setClaim m { s.claim m with localHold := none, passPending := true } with now := max s.now d }) ∧
  (∀ (s : State) (m : Mover) (n : Station) (d : Nat), s.Kept → s.heldDown = false →
     (s.claim m).holder = .station n → (s.claim m).override = some d →
     let r := s.mover m
     let c := s.claim m
     let pressed := (controlsOf m).filter fun x => s.control x == .passed
     let taken : ClaimRecord :=
       { c with
         holder := .deck, lease := none, deadline := none, ending := .revoked, override := none
         releaseOrder := if c.ending = .releasing then none else c.releaseOrder }
     let told := fun t : State =>
       t.now = max s.now d ∧ t.AllHear 6 ∧
       (c.ending = .notEnding → (s.station n).attached = true → (t.station n).status.getLsbD 1 = true) ∧
       (c.ending = .releasing → ∀ ref ∈ c.releaseOrder, s.Awaits ref → t.hasReply ref .done .noReason []) ∧
       ∀ ref ∈ r.deferred, s.Awaits ref →
         t.hasReply ref .ended .claimLost
           [wordOf r.position, flagWord r.valid, wordOfNat r.attempts, wordOfNat r.lastFault.code]
     (r.state = .halting ∨ (r.state = .recovering ∧ r.stopConfirmed = false) →
       ∃ t, exec (.override m) s = .next t ∧ told t ∧ t.claim m = taken ∧
         t.mover m =
           { (if r.state = .halting then r else r.halting .claimLost) with
             deferred := none
             live :=
               match pressed with
               | [x] => if m = .windlass ∧ s.footBlocked = true then r.live else some ⟨x, false⟩
               | _ => r.live }) ∧
     (r.state = .recovering → r.stopConfirmed = true → r.live = none →
       ∃ t, exec (.override m) s = .next t ∧ told t ∧
         t.claim m =
           { taken with
             ending := .notEnding, localHold := if pressed = [] then some (max s.now d + 10000) else c.localHold } ∧
         ∀ x, pressed = [x] → (m = .windlass → s.footBlocked = false) →
           let target := s.localTarget x
           let refused := r.linkLost = true ∨ permitCheck s m true (.toward target) ≠ none
           let near := r.valid = true ∧ target - r.position ≤ tolerance m ∧ r.position - target ≤ tolerance m
           (refused → t.AllHear 7) ∧
           (refused ∨ near → t.mover m = r.stopped) ∧
           (¬refused → ¬near →
             t.mover m =
               { r.stopped with
                 state := .moving, target := some target, attempts := 0, attended := true, noRetry := true, poll := .due
                 live := some ⟨x, true⟩ })))

/-- R76, R90: a press against a station starts the 3 s of the override timer and raises LOCAL_PRESS in it; the release
of the last control stops the timer; a press the mode screens out moves nothing and raises LOCAL_REFUSED. A press on a
free claim takes it for LOCAL; there, and where LOCAL holds already, a resting mover starts the drive of Table 3-3 (R45,
R57), unless the permit check or a FAULTED mover spends the press with LOCAL_REFUSED or the target is within tolerance,
and an active mover leaves the press waiting. A second foot switch ends the first (R61). In UNDERWAY a press of the hatch
button is a latch check (R51), and a heave passes the screen. R58, R76, R78: the release of a control where LOCAL holds
halts the drive it runs, with no reason, or ends its waiting press; with the last of the mover's controls, and no ending,
the local hold of 10 s starts. The release of a control that was screened out, or held since the restart, goes nowhere
(R62, R90). R61: while the bar on the foot switches stands, a newly pressed one moves the claim as ever and starts no
drive. That the bar is a mark of its own, and when it is lifted, is the model's (log entry 40, from R61). The model's too
are: that a press of one lever position while the other stands pressed is the release of that one followed by the press
(log entry 39, from R60); and that the release of a control that is RELEASED, and the press of one that is not, change
nothing (log entry 32). -/
def Obligations.PressesReachTheClaim : Prop :=
  ∀ (s : State) (c : Control), s.Kept → s.heldDown = false →
    let m := moverOfControl c
    (∀ n, (s.cond.mode ≠ .underway ∨ c = .windlassHeave) → s.control c = .released →
      (∀ d, leverOther c = some d → s.control d = .released) → (s.claim m).holder = .station n →
      exec (.localControlPressed c) s = .next (setLines
        (((s.setControl c .passed).setClaim m
          { s.claim m with override := some ((s.claim m).override.getD (s.now + 3000)) }).setStation n
            ((s.station n).told 5)))) ∧
    (∀ n, s.control c = .passed → (s.claim m).holder = .station n →
      (∀ d ∈ controlsOf m, d ≠ c → s.control d ≠ .passed) →
      let u := s.setControl c .released
      exec (.localControlReleased c) s = .next
        { u.setClaim m { s.claim m with override := none } with
          footBlocked :=
            if u.control .windlassHeave = .released ∧ u.control .windlassPayOut = .released then false
            else s.footBlocked }) ∧
    (let r := s.mover m
     let u := s.setControl c .released
     let blocked :=
       if u.control .windlassHeave = .released ∧ u.control .windlassPayOut = .released then false else s.footBlocked
     let others := ∃ d ∈ controlsOf m, d ≠ c ∧ s.control d = .passed
     let held : ClaimRecord :=
       if (s.claim m).ending = .notEnding ∧ ¬others then { s.claim m with localHold := some (s.now + 10000) }
       else s.claim m
     (s.control c = .released → exec (.localControlReleased c) s = .next s) ∧
     (s.control c ≠ .released → exec (.localControlPressed c) s = .next s) ∧
     (s.control c = .screened ∨ s.control c = .heldSinceRestart ∨
         (s.control c = .passed ∧
           ((s.claim m).holder = .nobody ∨ (others ∧ ∃ n, (s.claim m).holder = .station n))) →
       exec (.localControlReleased c) s = .next { u with footBlocked := blocked }) ∧
     (s.control c = .passed → (s.claim m).holder = .deck →
       ((∀ l, r.live = some l → l.control ≠ c) →
         exec (.localControlReleased c) s = .next { u.setClaim m held with footBlocked := blocked }) ∧
       (r.live = some ⟨c, false⟩ →
         exec (.localControlReleased c) s = .next
           { (u.setClaim m held).setMover m { r with live := none } with footBlocked := blocked }) ∧
       (r.live = some ⟨c, true⟩ → isMotion r.state = true →
         ∃ t, exec (.localControlReleased c) s = .next t ∧ t.mover m = { r.halting .noReason with live := none } ∧
           (∀ k, k ≠ m → t.mover k = s.mover k) ∧ (t.haltSlots.get m).isSome = true ∧
           t.claims = (s.setClaim m held).claims ∧ t.controls = u.controls ∧ t.footBlocked = blocked ∧
           ∀ n, (t.station n).status = (s.station n).status))) ∧
    (s.cond.mode = .underway → s.control c = .released →
      (∀ d, leverOther c = some d → s.control d = .released) → c ≠ .hatchButton → c ≠ .windlassHeave →
      exec (.localControlPressed c) s = .next (setLines (raiseAll .localRefused (s.setControl c .screened)))) ∧
    (s.cond.mode ≠ .underway → s.control c = .released →
      (∀ d, leverOther c = some d → s.control d = .released) → (s.claim m).holder = .nobody →
      s.cond.latch = true → isActive (s.mover m).state = false → s.footBlocked = false →
      exec (.localControlPressed c) s = .next (setLines (raiseAll .localRefused
        (((s.setControl c .passed).setClaim m
          { s.claim m with holder := .deck, lease := none, deadline := none, ending := .notEnding }).setMover m
            { s.mover m with live := none })))) ∧
    (let claim : ClaimRecord :=
      if (s.claim m).holder = .deck then { s.claim m with localHold := none, passPending := false }
      else { s.claim m with holder := .deck, lease := none, deadline := none, ending := .notEnding }
    let pressed := (s.setControl c .passed).setClaim m claim
    let deck := s.params.deckLevel
    let at_ := (s.mover m).position
    let target : Int :=
      match c with
      | .hatchButton => if s.cond.hatchClosed then 1000 else 0
      | .platformUp => if (s.mover m).valid = true ∧ deck + 5 < at_ then deck else 0
      | .platformDown => if (s.mover m).valid = true ∧ at_ < deck - 5 then deck else 1000
      | .windlassHeave => 0
      | .windlassPayOut => s.params.chainLength
    let near := (s.mover m).valid = true ∧ target - at_ ≤ tolerance m ∧ at_ - target ≤ tolerance m
    (s.cond.mode ≠ .underway ∨ c = .windlassHeave) → s.control c = .released →
      (∀ d, leverOther c = some d → s.control d = .released) →
      ((s.claim m).holder = .nobody ∨ (s.claim m).holder = .deck) →
      (m = .windlass → s.footBlocked = true → (s.claim m).holder = .nobody ∨ (s.mover m).live = none →
        exec (.localControlPressed c) s = .next pressed) ∧
      ((m = .windlass → s.footBlocked = false ∧ ((s.claim m).holder = .nobody ∨ (s.mover m).live = none)) →
        (isActive (s.mover m).state = true →
          exec (.localControlPressed c) s = .next (pressed.setMover m { s.mover m with live := some ⟨c, false⟩ })) ∧
        ((s.mover m).state = .faulted ∨
            (isActive (s.mover m).state = false ∧ permitCheck s m true (.toward target) ≠ none) →
          exec (.localControlPressed c) s = .next (setLines (raiseAll .localRefused
            (pressed.setMover m { s.mover m with live := none })))) ∧
        (isActive (s.mover m).state = false → (s.mover m).state ≠ .faulted →
          permitCheck s m true (.toward target) = none →
          (near → exec (.localControlPressed c) s = .next (pressed.setMover m { s.mover m with live := none })) ∧
          (¬near →
            ∃ t, exec (.localControlPressed c) s = .next t ∧
              t.mover m =
                { s.mover m with
                  state := .moving, target := some target, attempts := 0, recovery := false, haltCause := none
                  attended := true, noRetry := true, poll := .due, live := some ⟨c, true⟩ } ∧
              (∀ k, k ≠ m → t.mover k = s.mover k) ∧ t.claim m = claim ∧ (∀ k, k ≠ m → t.claim k = s.claim k) ∧
              t.control c = .passed ∧ t.haltSlots = s.haltSlots.set none m ∧
              QueueFrame.fresh (s.params.modules.get m) (.drive m target (tolerance m)) ∈ t.queue ∧
              t.declaration = (if m = .windlass then none else s.declaration) ∧
              t = { s with
                stations := t.stations, points := t.points, movers := t.movers, declaration := t.declaration
                claims := t.claims, controls := t.controls, queue := t.queue, awaitingRoom := t.awaitingRoom
                haltSlots := t.haltSlots, fences := t.fences }))) ∧
      (m = .windlass → (s.claim m).holder = .deck → ∀ l, (s.mover m).live = some l →
        (l.driving = false →
          exec (.localControlPressed c) s = .next
            { pressed.setMover m { s.mover m with live := none } with footBlocked := true }) ∧
        (l.driving = true → isMotion (s.mover m).state = true →
          ∃ t, exec (.localControlPressed c) s = .next t ∧ (t.mover m).state = .halting ∧
            (t.mover m).haltCause = some .noReason ∧ (t.mover m).live = none ∧ t.footBlocked = true ∧
            (t.haltSlots.get m).isSome = true))) ∧
    (∀ d, leverOther c = some d → s.control c = .released → s.control d ≠ .released →
      let r := s.mover m
      (∃ t, exec (.localControlReleased d) s = .next t ∧
        exec (.localControlPressed c) s = exec (.localControlPressed c) t) ∧
      (s.cond.mode ≠ .underway → s.control d = .passed → (s.claim m).holder = .deck → r.live = some ⟨d, true⟩ →
        isMotion r.state = true →
        ∃ t, exec (.localControlPressed c) s = .next t ∧
          t.mover m = { r.halting .noReason with live := some ⟨c, false⟩ } ∧
          (∀ k, k ≠ m → t.mover k = s.mover k) ∧ (t.haltSlots.get m).isSome = true ∧
          t.claims = (s.setClaim m { s.claim m with localHold := none, passPending := false }).claims ∧
          t.controls = ((s.setControl d .released).setControl c .passed).controls ∧
          ∀ n, (t.station n).status = (s.station n).status)) ∧
    (s.cond.mode = .underway → c = .hatchButton → s.control c = .released →
      let k := s.params.modules.hatch
      let screened := s.setControl c .screened
      (s.latchCheck = true ∨ (s.module k).present = false → exec (.localControlPressed c) s = .next screened) ∧
      (s.latchCheck = false → (s.module k).present = true →
        (∀ i, s.queue.findIdx? (fun f => f.module == k && f.isPoll && f.stage == .unsent) = some i →
          exec (.localControlPressed c) s = .next
            { screened with
              latchCheck := true, queue := s.queue.modify i fun f => { f with body := .poll true false } }) ∧
        ((∀ f ∈ s.queue, ¬(f.module = k ∧ f.isPoll = true ∧ f.stage = .unsent)) →
          exec (.localControlPressed c) s = .next (
            if s.queue.length < 18 then
              { screened with
                latchCheck := true, queue := s.queue ++ [QueueFrame.fresh k (.poll true false)] }
            else
              { screened with
                latchCheck := true
                awaitingRoom := s.awaitingRoom ++ [QueueFrame.fresh k (.poll true false)] }))))

/-! ### Motions -/

/-- R97, R98, R99: the items of the permit check in the order of Table 5-5, the first that fails giving the reason. -/
def Obligations.PermitCheckTakesTheItemsInOrder : Prop :=
  ∀ (s : State) (m : Mover) (attended : Bool) (d : Driven),
    let made := fun (k : Mover) (switch : Bool) =>
      switch = true ∧ s.cond.seen.get k = true ∧ (s.module (s.params.modules.get k)).present = true
    let heave := m = .windlass ∧
      match d with
      | .homing => True
      | .toward target => target = 0 ∨ target < s.movers.windlass.position
    let clear :=
      match m with
      | .hatch =>
        isActive s.movers.platform.state = false ∧
          (made .platform s.cond.stowed ∨ made .platform s.cond.deckSwitch)
      | .platform =>
        isActive s.movers.hatch.state = false ∧ (made .hatch s.cond.hatchClosed ∨ made .hatch s.cond.hatchOpen)
      | .windlass => True
    let r := s.module (s.params.modules.get m)
    (s.cond.latch = true → permitCheck s m attended d = some .permitEstop) ∧
    (s.cond.latch = false → m ≠ .hatch → s.cond.swimmer = true → attended = false →
      permitCheck s m attended d = some .permitSwimmer) ∧
    (s.cond.latch = false → (m = .hatch ∨ s.cond.swimmer = false ∨ attended = true) →
      ((s.cond.mode = .underway ∧ ¬heave) ∨ ¬clear → permitCheck s m attended d = some .permitInterlock) ∧
      ((s.cond.mode ≠ .underway ∨ heave) → clear →
        permitCheck s m attended d = if r.present = true ∧ 8 ≤ r.score then none else some .permitLink))

/-- R26: the refusals of MOVE in the order of its checks, of a retarget those of R28; and the refusals of HOME (R29).
The screen of the mode is Table 5-4. Past it the order has renewed an ATTENDED lease of the holder (R67). -/
def Obligations.MoveAndHomeAreRefused : Prop :=
  (∀ (s : State) (o : OrderFrame), s.Kept → s.Takes o → moverOf o.target = none →
    exec (.move o) s = .next (s.answered codeMove o .refused .badTarget []) ∧
    exec (.home o) s = .next (s.answered codeHome o .refused .badTarget [])) ∧
  (∀ (s : State) (o : OrderFrame) (m : Mover), s.Kept → s.Takes o → moverOf o.target = some m →
    (¬(∃ w ∈ o.words, o.words = [w] ∧ 0 ≤ w.toInt ∧ w.toInt ≤ scaleTop s.params.chainLength m) →
      exec (.move o) s = .next (s.answered codeMove o .refused .badOperand [])) ∧
    (o.words ≠ [] → exec (.home o) s = .next (s.answered codeHome o .refused .badOperand []))) ∧
  (∀ (s : State) (o : OrderFrame) (m : Mover) (w : Word), s.Kept → s.Takes o → moverOf o.target = some m →
    o.words = [w] → 0 ≤ w.toInt → w.toInt ≤ scaleTop s.params.chainLength m →
    let target := w.toInt
    let r := s.mover m
    let attended := o.attrs.getLsbD 1
    let valid := (s.cond.mode = .setup → (s.profile o.station).maint = true) ∧
      (s.cond.mode = .underway → m = .windlass ∧ (target = 0 ∨ target < s.movers.windlass.position))
    let allowed := attended = true → (s.profile o.station).attend = true
    let holds := (s.claim m).holder = .station o.station ∧ (s.claim m).ending = .notEnding
    let refused := fun (t : State) (why : Reason) =>
      exec (.move o) s = .next (t.answered codeMove o .refused why [])
    let past := s.attendedBy o.station m
    let present := r.target.getD r.position
    let further := r.attempts = 0 ∧
      ((r.position < present ∧ r.position < target) ∨ (present < r.position ∧ target < r.position)) ∧
      withinTolerance m target r.position = false
    (¬valid → refused s .modeInvalid) ∧
    (valid → ¬allowed → refused s .noAuthority) ∧
    (valid → allowed → ¬holds → refused s .notHolder) ∧
    (valid → allowed → holds →
      (r.state = .unhomed ∨ (r.state = .halted ∧ r.valid = false) → refused past .notHomed) ∧
      (r.state = .faulted → refused past .moverFaulted) ∧
      (r.state = .homing ∨ r.state = .settling ∨ r.state = .recovering ∨ r.state = .halting → refused past .busy) ∧
      (r.state = .moving → ¬further → refused past .busy) ∧
      (r.state = .idle ∨ (r.state = .halted ∧ r.valid = true) ∨ (r.state = .moving ∧ further) →
        ∀ why, permitCheck s m attended (.toward target) = some why → refused past why))) ∧
  (∀ (s : State) (o : OrderFrame) (m : Mover), s.Kept → s.Takes o → moverOf o.target = some m → o.words = [] →
    let attended := o.attrs.getLsbD 1
    let valid := (s.cond.mode = .setup → (s.profile o.station).maint = true) ∧
      (s.cond.mode = .underway → m = .windlass)
    let allowed := attended = true → (s.profile o.station).attend = true
    let holds := (s.claim m).holder = .station o.station ∧ (s.claim m).ending = .notEnding
    let refused := fun (t : State) (why : Reason) =>
      exec (.home o) s = .next (t.answered codeHome o .refused why [])
    let past := s.attendedBy o.station m
    (¬valid → refused s .modeInvalid) ∧
    (valid → ¬allowed → refused s .noAuthority) ∧
    (valid → allowed → ¬holds → refused s .notHolder) ∧
    (valid → allowed → holds →
      (isActive (s.mover m).state = true → refused past .busy) ∧
      (isActive (s.mover m).state = false →
        ∀ why, permitCheck s m attended .homing = some why → refused past why)))

/-- R26, R27, R29, R66: MOVE and HOME of a resting mover, every check passed: the mover is in MOVING toward the target,
or in HOMING; its DRIVE or HOME frame is in the queue, the lease is the motion's, and the reply is ACCEPTED with the
state, or waits. Of the windlass a waiting declaration ends with SUPERSEDED (R56). R27: a MOVE within tolerance starts
nothing and is DONE; that it leaves the record's attempt count as it is is the model's (log entry 41). R28: a retarget that
is taken. -/
def Obligations.MoveAndHomeStartAMotion : Prop :=
  (∀ (s : State) (o : OrderFrame) (m : Mover) (w : Word), s.Kept → s.Takes o → moverOf o.target = some m →
     o.words = [w] → 0 ≤ w.toInt → w.toInt ≤ scaleTop s.params.chainLength m →
     let attended := o.attrs.getLsbD 1
     s.motionModeValid o.station m (some w.toInt) = true → (attended = true → (s.profile o.station).attend = true) →
     (s.claim m).holder = .station o.station → (s.claim m).ending = .notEnding →
     ((s.mover m).state = .idle ∨ ((s.mover m).state = .halted ∧ (s.mover m).valid = true)) →
     permitCheck s m attended (.toward w.toInt) = none →
     ¬(w.toInt - (s.mover m).position ≤ tolerance m ∧ (s.mover m).position - w.toInt ≤ tolerance m) →
     ∃ t, exec (.move o) s = .next t ∧
       t.mover m =
         { s.mover m with
           state := .moving, target := some w.toInt, attempts := 0, recovery := false, haltCause := none
           attended := attended, noRetry := o.attrs.getLsbD 0, poll := .due
           deferred := if o.attrs.getLsbD 2 then some (s.nextRef o) else (s.mover m).deferred } ∧
       (∀ k, k ≠ m → t.mover k = s.mover k) ∧
       t.claim m =
         { s.claim m with
           lease := some (if attended then .attended else .motion)
           deadline := some (s.now + if attended then 1500 else 6000) } ∧
       (∀ k, k ≠ m → t.claim k = s.claim k) ∧
       QueueFrame.fresh (s.params.modules.get m) (.drive m w.toInt (tolerance m)) ∈ t.queue ∧
       t.haltSlots = s.haltSlots.set none m ∧
       (o.attrs.getLsbD 2 = false → t.hasReply (s.nextRef o) .accepted .noReason [3]) ∧
       t = { s with
         stations := t.stations, nextSerial := t.nextSerial, points := t.points, movers := t.movers
         declaration := t.declaration, claims := t.claims, queue := t.queue, awaitingRoom := t.awaitingRoom
         haltSlots := t.haltSlots, fences := t.fences } ∧
       t.declaration = (if m = .windlass then none else s.declaration) ∧
       (m = .windlass → ∀ d r, s.declaration = some d → d.order = some r → s.Awaits r →
         t.hasReply r .ended .superseded [])) ∧
  (∀ (s : State) (o : OrderFrame) (m : Mover), s.Kept → s.Takes o → moverOf o.target = some m → o.words = [] →
     let attended := o.attrs.getLsbD 1
     s.motionModeValid o.station m none = true → (attended = true → (s.profile o.station).attend = true) →
     (s.claim m).holder = .station o.station → (s.claim m).ending = .notEnding →
     isActive (s.mover m).state = false → permitCheck s m attended .homing = none →
     ∃ t, exec (.home o) s = .next t ∧
       t.mover m =
         { s.mover m with
           state := .homing, valid := false, target := some 0, attempts := 0, recovery := false, haltCause := none
           attended := attended, noRetry := o.attrs.getLsbD 0, poll := .due
           deferred := if o.attrs.getLsbD 2 then some (s.nextRef o) else (s.mover m).deferred } ∧
       (∀ k, k ≠ m → t.mover k = s.mover k) ∧
       t.claim m =
         { s.claim m with
           lease := some (if attended then .attended else .motion)
           deadline := some (s.now + if attended then 1500 else 6000) } ∧
       (∀ k, k ≠ m → t.claim k = s.claim k) ∧
       QueueFrame.fresh (s.params.modules.get m) (.home m none) ∈ t.queue ∧ t.haltSlots = s.haltSlots.set none m ∧
       (o.attrs.getLsbD 2 = false → t.hasReply (s.nextRef o) .accepted .noReason [1]) ∧
       t = { s with
         stations := t.stations, nextSerial := t.nextSerial, points := t.points, movers := t.movers
         declaration := t.declaration, claims := t.claims, queue := t.queue, awaitingRoom := t.awaitingRoom
         haltSlots := t.haltSlots, fences := t.fences } ∧
       t.declaration = (if m = .windlass then none else s.declaration) ∧
       (m = .windlass → ∀ d r, s.declaration = some d → d.order = some r → s.Awaits r →
         t.hasReply r .ended .superseded [])) ∧
  (∀ (s : State) (o : OrderFrame) (m : Mover), s.Kept → s.Takes o → moverOf o.target = some m →
     ∀ w, o.words = [w] → 0 ≤ w.toInt → w.toInt ≤ scaleTop s.params.chainLength m →
     let attended := o.attrs.getLsbD 1
     let r := s.mover m
     s.motionModeValid o.station m (some w.toInt) = true → (attended = true → (s.profile o.station).attend = true) →
     (s.claim m).holder = .station o.station → (s.claim m).ending = .notEnding →
     permitCheck s m attended (.toward w.toInt) = none →
     (r.state = .idle ∨ (r.state = .halted ∧ r.valid = true) →
       w.toInt - r.position ≤ tolerance m ∧ r.position - w.toInt ≤ tolerance m →
       exec (.move o) s = .next (
         ((s.attendedBy o.station m).setMover m { r with state := .idle, poll := .idle }).answered codeMove o .done
           .noReason [wordOf r.position, flagWord r.valid, 0, wordOfNat r.lastFault.code])) ∧
     (r.state = .moving → r.attempts = 0 →
       (let present := r.target.getD r.position
        (r.position < present ∧ r.position < w.toInt) ∨ (present < r.position ∧ w.toInt < r.position)) →
       ¬(w.toInt - r.position ≤ tolerance m ∧ r.position - w.toInt ≤ tolerance m) →
       ∃ t, exec (.move o) s = .next t ∧
         t.mover m =
           { r with
             target := some w.toInt, attended := attended, noRetry := o.attrs.getLsbD 0
             deferred := if o.attrs.getLsbD 2 then some (s.nextRef o) else none } ∧
         (∀ k, k ≠ m → t.mover k = s.mover k) ∧
         t.claim m =
           (if attended = r.attended then (s.attendedBy o.station m).claim m
            else
              { s.claim m with
                lease := some (if attended then .attended else .motion)
                deadline := some (s.now + if attended then 1500 else 6000) }) ∧
         (∀ k, k ≠ m → t.claim k = s.claim k) ∧
         (∀ d, r.deferred = some d → s.Awaits d →
           t.hasReply d .ended .superseded
             [wordOf r.position, flagWord r.valid, 0, wordOfNat r.lastFault.code]) ∧
         QueueFrame.fresh (s.params.modules.get m) (.drive m w.toInt (tolerance m)) ∈ t.queue ∧
         (∀ f ∈ t.queue, f.commands m = true → f.stage = .unsent →
           f = QueueFrame.fresh (s.params.modules.get m) (.drive m w.toInt (tolerance m))) ∧
         t.haltSlots = s.haltSlots.set none m ∧ t.declaration = s.declaration ∧
         (o.attrs.getLsbD 2 = false → t.hasReply (s.nextRef o) .accepted .noReason [3]) ∧
         t = { s with
           stations := t.stations, nextSerial := t.nextSerial, points := t.points, movers := t.movers
           claims := t.claims, queue := t.queue, awaitingRoom := t.awaitingRoom, haltSlots := t.haltSlots
           fences := t.fences }))

/-- R37, R40: the two refusals of HALT. HALT of one mover: in a motion state it is HALTING with a halt frame in its slot;
at rest or HALTING already nothing but the reply comes of it; in RECOVERING it is HALTING until the halt frame placed
there is confirmed, or, that frame being confirmed, at rest at once (with the link lost FAULTED, log entry 20). HALT of all
three does this to each, and its reply has their states in the order HATCH, PLATFORM, WINDLASS; that they are
read when all three requests have been made is the model's (log entry 28). R38, R41, R42, R132: a reply to the halt frame, taken as timely as its row says
(log entry 3), empties the slot and brings the mover to rest: HALTED or UNHOMED by the validity it had, not valid without
a position in the report, the deferred reply ENDED with the halt cause, MOTION_DONE in the holder; with the link lost it
faults instead (R39). -/
def Obligations.HaltHaltsAMovingMover : Prop :=
  (∀ (s : State) (o : OrderFrame), s.Kept → s.Takes o →
    (o.target ≠ 0xFFFF → moverOf o.target = none →
      exec (.halt o) s = .next (s.answered codeHalt o .refused .badTarget [])) ∧
    (o.target = 0xFFFF ∨ moverOf o.target ≠ none → o.words ≠ [] →
      exec (.halt o) s = .next (s.answered codeHalt o .refused .badOperand []))) ∧
  (∀ (s : State) (o : OrderFrame), s.Kept → s.Takes o → o.target = 0xFFFF → o.words = [] →
    ∃ t, exec (.halt o) s = .next t ∧
      t.hasReply (s.nextRef o) .done .noReason
        [wordOfNat t.movers.hatch.state.code, wordOfNat t.movers.platform.state.code,
         wordOfNat t.movers.windlass.state.code] ∧
      ∀ m,
        (isMotion (s.mover m).state = true →
          t.mover m =
            { s.mover m with
              state := .halting, haltCause := some .halted, poll := .idle, travel := none, stall := none
              settle := none, pause := none, homingTravel := none
              live := (s.mover m).live.filter fun l => !l.driving } ∧
          t.haltSlots.get m = some ((s.haltSlots.get m).getD ⟨none, 0, .waitingToSend⟩)) ∧
        ((s.mover m).state = .recovering → (∀ p, (s.mover m).pause = some p → p.confirmed = false) →
          t.mover m =
            { s.mover m with
              state := .halting, haltCause := some .halted, poll := .idle, travel := none, stall := none
              settle := none, pause := none, homingTravel := none } ∧
          t.haltSlots.get m = s.haltSlots.get m) ∧
        (isMotionOrRecovering (s.mover m).state = false →
          t.mover m = s.mover m ∧ t.haltSlots.get m = s.haltSlots.get m)) ∧
  (∀ (s : State) (o : OrderFrame) (m : Mover) (p : Pause), s.Kept → s.Takes o → moverOf o.target = some m →
    o.words = [] → (s.mover m).state = .recovering → (s.mover m).pause = some p →
    let before := s.mover m
    (p.confirmed = false →
      ∃ t, exec (.halt o) s = .next t ∧
        t.mover m =
          { before with
            state := .halting, haltCause := some .halted, poll := .idle, travel := none, stall := none
            settle := none, pause := none, homingTravel := none } ∧
        (∀ k, k ≠ m → t.mover k = s.mover k) ∧ t.haltSlots = s.haltSlots ∧
        t.hasReply (s.nextRef o) .done .noReason [6]) ∧
    (∀ n, p.confirmed = true → (s.claim m).holder = .station n → (s.claim m).ending = .notEnding →
      ∃ t, exec (.halt o) s = .next t ∧
        (t.mover m).valid = before.valid ∧ (t.mover m).position = before.position ∧ (t.mover m).target = none ∧
        (t.mover m).deferred = none ∧ (t.mover m).linkLost = false ∧
        (t.claim m).lease = some .rest ∧ (t.claim m).deadline = some (s.now + 120000) ∧
        t.hasReply (s.nextRef o) .done .noReason [wordOfNat (t.mover m).state.code] ∧
        if before.linkLost then
          (t.mover m).state = .faulted ∧ (t.mover m).lastFault = .linkLost ∧
          ((s.station n).attached = true → (t.station n).status.getLsbD 4 = true)
        else
          (t.mover m).state = (if before.valid then .halted else .unhomed) ∧
          ((s.station n).attached = true → (t.station n).status.getLsbD 3 = true) ∧
          ∀ ref, before.deferred = some ref → s.Awaits ref →
            t.hasReply ref .ended .halted
              [wordOf before.position, flagWord before.valid, wordOfNat before.attempts,
               wordOfNat before.lastFault.code])) ∧
  (∀ (s : State) (o : OrderFrame) (m : Mover), s.Kept → s.Takes o → moverOf o.target = some m → o.words = [] →
    (isMotion (s.mover m).state = true →
      ∃ t, exec (.halt o) s = .next t ∧
        t.mover m =
          { s.mover m with
            state := .halting, haltCause := some .halted, poll := .idle, travel := none, stall := none
            settle := none, pause := none, homingTravel := none
            live := (s.mover m).live.filter fun l => !l.driving } ∧
        (∀ k, k ≠ m → t.mover k = s.mover k) ∧
        t.haltSlots = s.haltSlots.set (some ((s.haltSlots.get m).getD ⟨none, 0, .waitingToSend⟩)) m ∧
        t.claims = (s.attendedBy o.station m).claims ∧
        t.hasReply (s.nextRef o) .done .noReason [6] ∧
        t = { s with
          stations := t.stations, nextSerial := t.nextSerial, points := t.points, movers := t.movers
          claims := t.claims, queue := t.queue, awaitingRoom := t.awaitingRoom, haltSlots := t.haltSlots
          fences := t.fences }) ∧
    (isMotionOrRecovering (s.mover m).state = false →
      exec (.halt o) s = .next
        ((s.attendedBy o.station m).answered codeHalt o .done .noReason [wordOfNat (s.mover m).state.code]))) ∧
  (∀ (s : State) (m : Mover) (r : FieldReply) (x : SideFlight) (n : Station), s.Kept → s.OneMoverEach →
    let k := s.params.modules.get m
    s.Answers k r → s.queue.find? (fun g => g.answeredBy k r) = none →
    s.sideFlights.find? (fun y => y.answeredBy k r) = some x → x.kind = .halt m →
    s.slotHolds m r.seq = true → (s.mover m).state = .halting → (s.claim m).holder = .station n →
    (s.claim m).ending = .notEnding → (m = .windlass → s.declaration = none) →
    let before := s.mover m
    let report := r.drive.bind fun d => d.position
    let position := (report.map fun p => p.toInt).getD before.position
    let valid := before.valid && report.isSome
    ∃ t, exec (.timelyReply r) s = .next t ∧ t.haltSlots.get m = none ∧
      (∀ y ∈ t.sideFlights, y.answeredBy k r = false) ∧
      (t.mover m).position = position ∧ (t.mover m).valid = valid ∧ (t.mover m).target = none ∧
      (t.mover m).recovery = false ∧ (t.mover m).deferred = none ∧ (t.mover m).linkLost = false ∧
      (t.claim m).holder = .station n ∧ (t.claim m).lease = some .rest ∧
      (t.claim m).deadline = some (s.now + 120000) ∧
      if before.linkLost then
        (t.mover m).state = .faulted ∧ (t.mover m).lastFault = .linkLost ∧
        ((s.station n).attached = true → (t.station n).status.getLsbD 4 = true)
      else
        (t.mover m).state = (if before.valid then .halted else .unhomed) ∧ (t.mover m).haltCause = none ∧
        ((s.station n).attached = true → (t.station n).status.getLsbD 3 = true) ∧
        ∀ ref, before.deferred = some ref → s.Awaits ref →
          t.hasReply ref .ended (before.haltCause.getD .noReason)
            [wordOf position, flagWord valid, wordOfNat before.attempts, wordOfNat before.lastFault.code])

/-- R55: SET_CHAIN_OUT: its refusals in the order of its checks; and, every check passed: the declaration waits, the
windlass is UNHOMED with its position not valid, and the preset frame is in the queue. R56: the reply to the preset frame,
taken as timely as its row says (log entry 3), completes the declaration with its report, whatever the status. That a
declaration remembers its module is the model's (log entry 22). -/
def Obligations.SetChainOutDeclares : Prop :=
  (∀ (s : State) (o : OrderFrame) (w : Word), s.Kept → s.Takes o → o.target = 2 → o.words = [w] →
    0 ≤ w.toInt → w.toInt ≤ s.params.chainLength →
    (w.toInt = 0 → s.seenMade .windlass s.cond.anchorHome = true) →
    (2 ≤ w.toInt → s.seenMade .windlass s.cond.anchorHome = false) →
    (s.profile o.station).maint = true →
    ((s.claim .windlass).holder = .nobody ∨ (s.claim .windlass).holder = .station o.station) →
    isActive s.movers.windlass.state = false → s.movers.windlass.state ≠ .faulted → s.declaration = none →
    (s.module s.params.modules.windlass).present = true →
    ∃ t, exec (.setChainOut o) s = .next t ∧
      t.movers.windlass = { s.movers.windlass with state := .unhomed, valid := false, poll := .idle } ∧
      t.movers.hatch = s.movers.hatch ∧ t.movers.platform = s.movers.platform ∧
      t.declaration = some ⟨w.toInt, some (s.nextRef o), s.params.modules.windlass⟩ ∧
      QueueFrame.fresh s.params.modules.windlass (.home .windlass (some w.toInt)) ∈ t.queue ∧
      (∃ e ∈ (t.station o.station).intake, e.serial = s.nextSerial ∧ e.stage = .waiting) ∧
      t.claims = (s.attendedBy o.station .windlass).claims) ∧
  (∀ (s : State) (o : OrderFrame), s.Kept → s.Takes o →
    let refusedAt := fun (t : State) (why : Reason) (data : List Word) =>
      exec (.setChainOut o) s = .next (t.answered codeSetChainOut o .refused why data)
    let refused := refusedAt s
    let home := s.seenMade .windlass s.cond.anchorHome = true
    (o.target ≠ 2 → refused .badTarget []) ∧
    (o.target = 2 →
      (o.words.length ≠ 1 → refused .badOperand []) ∧
      ∀ w, o.words = [w] →
        let v := w.toInt
        let fits := 0 ≤ v ∧ v ≤ s.params.chainLength ∧ (v = 0 → home) ∧ (2 ≤ v → ¬home)
        let c := s.claim .windlass
        let st := s.movers.windlass.state
        let present := (s.module s.params.modules.windlass).present = true
        let past := s.attendedBy o.station .windlass
        (¬fits → refused .badOperand []) ∧
        (fits → (s.profile o.station).maint = false → refused .noAuthority []) ∧
        (fits → (s.profile o.station).maint = true →
          (c.holder ≠ .nobody → c.holder ≠ .station o.station → refused .heldBy [wordOfNat c.holder.code]) ∧
          (c.holder = .nobody ∨ c.holder = .station o.station →
            (isActive st = true → refusedAt past .busy []) ∧
            (st = .faulted → refusedAt past .moverFaulted []) ∧
            (isActive st = false → st ≠ .faulted →
              (s.declaration ≠ none → refusedAt past .busy []) ∧
              (s.declaration = none → ¬present → refusedAt past .permitLink [])))))) ∧
  (∀ (s : State) (r : FieldReply) (f : QueueFrame) (d : Declaration) (x : DriveReport), s.Kept → s.OneMoverEach →
    let k := s.params.modules.windlass
    s.Answers k r → s.queue.find? (fun g => g.answeredBy k r) = some f → (∃ v, f.body = .home .windlass (some v)) →
    s.declaration = some d → d.module = k → isActive s.movers.windlass.state = false → r.drive = some x →
    s.movers.windlass.command = some x.command → (∀ g ∈ s.queue, g.commands .windlass = true → g.stage ≠ .unsent) →
    let position := (x.position.map fun p => p.toInt).getD s.movers.windlass.position
    ∃ t, exec (.timelyReply r) s = .next t ∧ t.declaration = none ∧ t.movers.windlass.state = .idle ∧
      t.movers.windlass.valid = true ∧ t.movers.windlass.position = position ∧ t.creepReference = position ∧
      t.creepFlag = false ∧ (∀ g ∈ t.queue, g.answeredBy k r = false) ∧
      ∀ ref, d.order = some ref → s.Awaits ref → t.hasReply ref .done .noReason [wordOf position])

/-- R33, R34, R36: the travel time limit or the stall window expires in MOVING, or a report concerning the DRIVE frame
shows a drive fault, or STOPPED outside tolerance: RECOVERING while the retry decision allows another try, with no event
in any station; otherwise FAULTED. R30: in HOMING the stall window ends in HOME_NOT_FOUND, and a report concerning the
HOME frame without the home switch made ends it by its status, or by the allowance, whose count is the model's reading
(log entry 35). R32: a drive fault in SETTLING, of the DRIVE a retarget replaces too while the new one is unsent (log
entry 12), is not retried. That an expiry finds the clock at its deadline (log entry 2), that a row's reply is timely
(log entry 3), that after a retarget the old DRIVE is the one reports concern until the new one is sent (log entry 12
too), that the allowance comes before the status (log entry 44), and which reports of a status `seen` keeps (log entry 53)
are the model's. -/
def Obligations.ExpiredTimerIsAMotionFault : Prop :=
  (∀ (s : State) (m : Mover) (c : Instr) (code : FaultCode) (d : Nat), s.heldDown = false →
    ((c = .travelTimeExpiry m ∧ (s.mover m).travel = some d ∧ code = .travelTime) ∨
      (c = .stallWindowExpiry m ∧ (s.mover m).stall = some d ∧ code = .stall)) →
    (s.mover m).state = .moving →
    let n := (s.mover m).attempts + 1
    let again := (s.mover m).noRetry = false ∧ (n ≤ 3 ∨ (n = 4 ∧ m ≠ .windlass))
    (again →
      ∃ t, exec c s = .next t ∧ t.now = max s.now d ∧
        t.mover m =
          { s.mover m with
            state := .recovering, lastFault := code, attempts := n, poll := .idle, travel := none, stall := none
            settle := none, homingTravel := none, pause := some ⟨max s.now d + 2000, false, false⟩ } ∧
        (∀ k, k ≠ m → t.mover k = s.mover k) ∧ (t.haltSlots.get m).isSome = true ∧
        (∀ k, (t.station k).status = (s.station k).status) ∧ t.claims = s.claims) ∧
    (¬again →
      ∃ t, exec c s = .next t ∧ (t.mover m).state = .faulted ∧ (t.mover m).lastFault = code ∧
        (t.mover m).attempts = n ∧ (t.mover m).target = none ∧ (t.mover m).deferred = none ∧
        (t.mover m).valid = (s.mover m).valid ∧ (t.mover m).position = (s.mover m).position ∧
        (t.haltSlots.get m).isSome = true ∧
        ∀ k, (s.claim m).holder = .station k → (s.station k).attached = true →
          (t.station k).status.getLsbD 4 = true)) ∧
  (∀ (s : State) (m : Mover) (d : Nat), s.heldDown = false → (s.mover m).state = .homing →
    (s.mover m).stall = some d →
    ∃ t, exec (.stallWindowExpiry m) s = .next t ∧ t.now = max s.now d ∧ (t.mover m).state = .faulted ∧
      (t.mover m).lastFault = .homeNotFound ∧
      (t.mover m).attempts = (if (s.mover m).recovery then 5 else (s.mover m).attempts) ∧
      (t.mover m).target = none ∧ (t.mover m).deferred = none ∧ (t.mover m).position = (s.mover m).position ∧
      (t.haltSlots.get m).isSome = true ∧
      ∀ k, (s.claim m).holder = .station k → (s.station k).attached = true →
        (t.station k).status.getLsbD 4 = true) ∧
  (∀ (s : State) (m : Mover) (r : FieldReply) (x : DriveReport), s.RoomLaw → s.Brings m r x →
    (m = .windlass → s.declaration = none) → (s.mover m).command = some x.command →
    s.slotHolds m x.command = false →
    let before := s.mover m
    let position := (x.position.map fun p => p.toInt).getD before.position
    let sent := ∀ g ∈ s.queue, g.commands m = true → g.stage ≠ .unsent
    let faulted := fun (t : State) (code : FaultCode) (attempts : Nat) =>
      (t.mover m).state = .faulted ∧ (t.mover m).lastFault = code ∧ (t.mover m).attempts = attempts ∧
      (t.mover m).target = none ∧ (t.mover m).deferred = none ∧ (t.mover m).position = position ∧
      (t.haltSlots.get m).isSome = true ∧
      ∀ k, (s.claim m).holder = .station k → (s.station k).attached = true →
        (t.station k).status.getLsbD 4 = true
    (before.state = .moving → (sent ∨ before.stall ≠ none) → x.status ∉ before.seen →
      ∀ code,
        ((x.status = .stalled ∧ code = .stall) ∨ (x.status = .overload ∧ code = .overload) ∨
          (x.status = .limitMismatch ∧ code = .limitMismatch) ∨
          (x.status = .stopped ∧ before.valid = true ∧
            withinTolerance m position (before.target.getD 0) = false ∧ code = .stall)) →
        let n := before.attempts + 1
        if before.noRetry = false ∧ (n ≤ 3 ∨ (n = 4 ∧ m ≠ .windlass)) then
          ∃ t, exec (.timelyReply r) s = .next t ∧
            t.mover m =
              { before with
                position := position, state := .recovering, lastFault := code, attempts := n, poll := .idle
                travel := none, stall := none, settle := none, homingTravel := none
                pause := some ⟨s.now + 2000, false, false⟩, seen := before.seen ++ [x.status] } ∧
            (t.haltSlots.get m).isSome = true ∧ t.claim m = s.claim m
        else ∃ t, exec (.timelyReply r) s = .next t ∧ faulted t code n) ∧
    (before.state = .settling → x.status ∉ before.seen →
      ∀ code,
        ((x.status = .stalled ∧ code = .stall) ∨ (x.status = .overload ∧ code = .overload) ∨
          (x.status = .limitMismatch ∧ code = .limitMismatch)) →
        ∃ t, exec (.timelyReply r) s = .next t ∧ faulted t code before.attempts ∧
          ∀ g ∈ t.queue, g.commands m = true → g.stage ≠ .unsent) ∧
    (before.state = .homing → sent → r.switches.getLsbD (homeSwitchOf m) = false →
      ∀ h, before.homingTravel = some h →
        let total := match x.position with
          | some p => h.total + ((h.last.map fun q => distance q p.toInt).getD 0)
          | none => h.total
        let attempts := if before.recovery then 5 else before.attempts
        (homingAllowance s.params.chainLength m < total →
          ∃ t, exec (.timelyReply r) s = .next t ∧ faulted t .homeNotFound attempts) ∧
        (total ≤ homingAllowance s.params.chainLength m → x.status ∉ before.seen →
          ∀ code,
            (((x.status = .stalled ∨ x.status = .stopped) ∧ code = .homeNotFound) ∨
              (x.status = .overload ∧ code = .overload) ∨
              (x.status = .limitMismatch ∧ code = .limitMismatch)) →
            ∃ t, exec (.timelyReply r) s = .next t ∧ faulted t code attempts)))

/-- R32, R41, R42, R66: the settle time ends in SETTLING, under a station's claim: IDLE when the settle condition is met
(R50, R52), with the deferred reply DONE, MOTION_DONE in the holder and a REST lease; otherwise FAULTED with
LIMIT_MISMATCH. R31: a report concerning the DRIVE frame that shows STOPPED within tolerance starts the settling, and so
does one in HOMING with the home switch made (R30), which counts before all else the report shows (log entry 44), and
whose status is not kept as reported (log entry 53): both are the model's; in a
recovery homing it makes the permit check, and the mover drives again or is HALTED. R45, R60, R61: a local drive with
position valid no ends in UNHOMED at any STOPPED; that one of the hatch begun from HALTED does so too is the model's (log
entry 49). That an expiry finds the clock at its deadline (log entry 2), that a row's reply is
timely (log entry 3), and that after a retarget the old DRIVE is the one reports concern until the new one is sent (log
entry 12), are the model's. -/
def Obligations.SettleTimeEndsTheMotion : Prop :=
  (∀ (s : State) (m : Mover) (n : Station) (d : Nat), s.heldDown = false → (s.mover m).state = .settling →
    (s.mover m).settle = some d → (s.claim m).holder = .station n → (s.claim m).ending = .notEnding →
    ∃ t, exec (.settleTimeExpiry m) s = .next t ∧ t.now = max s.now d ∧
      (t.mover m).target = none ∧ (t.mover m).deferred = none ∧ (t.mover m).position = (s.mover m).position ∧
      (t.mover m).valid = (s.mover m).valid ∧ (t.claim m).holder = .station n ∧ (t.claim m).lease = some .rest ∧
      (t.claim m).deadline = some (max s.now d + 120000) ∧
      let target := (s.mover m).target.getD 0
      let deck := s.params.deckLevel
      let met :=
        (m = .hatch ∧ target = 0 ∧ s.cond.latchMade = true) ∨
        (m = .hatch ∧ target ≠ 0 ∧ 995 ≤ target ∧ target ≤ 1005 ∧ s.cond.hatchOpen = true) ∨
        (m = .hatch ∧ target ≠ 0 ∧ ¬(995 ≤ target ∧ target ≤ 1005) ∧ s.cond.hatchClosed = false) ∨
        (m = .platform ∧ target = 0 ∧ s.cond.stowed = true) ∨
        (m = .platform ∧ target ≠ 0 ∧ deck - 5 ≤ target ∧ target ≤ deck + 5 ∧ s.cond.stowed = false) ∨
        (m = .platform ∧ target ≠ 0 ∧ deck + 5 < target ∧ s.cond.stowed = false ∧ s.cond.deckSwitch = true) ∨
        (m = .platform ∧ target ≠ 0 ∧ target < deck - 5 ∧ s.cond.stowed = false ∧ s.cond.deckSwitch = false) ∨
        (m = .windlass ∧ s.brakeApplied = true ∧ (target = 0 → s.cond.anchorHome = true))
      if met then
        (t.mover m).state = .idle ∧ ((s.station n).attached = true → (t.station n).status.getLsbD 3 = true) ∧
        ∀ r, (s.mover m).deferred = some r → (∃ e ∈ (s.station r.station).intake, e.serial = r.serial) →
          t.hasReply r .done .noReason
            [wordOf (s.mover m).position, flagWord (s.mover m).valid, wordOfNat (s.mover m).attempts,
             wordOfNat (s.mover m).lastFault.code]
      else
        (t.mover m).state = .faulted ∧ (t.mover m).lastFault = .limitMismatch ∧
        ((s.station n).attached = true → (t.station n).status.getLsbD 4 = true)) ∧
  (∀ (s : State) (m : Mover) (r : FieldReply) (x : DriveReport), s.Brings m r x →
    (m = .windlass → s.declaration = none) → (s.mover m).command = some x.command →
    (∀ g ∈ s.queue, g.commands m = true → g.stage ≠ .unsent) →
    let before := s.mover m
    let target := before.target.getD 0
    let position := (x.position.map fun p => p.toInt).getD before.position
    let settling : MoverRecord :=
      { before with
        state := .settling, travel := none, stall := none, pause := none, homingTravel := none
        settle := some (s.now + if m = .hatch ∧ target = 0 then 1000 else 500) }
    (before.state = .moving → x.status = .stopped → x.status ∉ before.seen → before.valid = true →
      position - target ≤ tolerance m → target - position ≤ tolerance m →
      ∃ t, exec (.timelyReply r) s = .next t ∧
        t.mover m = { settling with position := position, seen := before.seen ++ [.stopped] } ∧
        t.claim m = s.claim m) ∧
    (before.state = .homing → before.recovery = false →
      r.switches.getLsbD (homeSwitchOf m) = true →
      ∃ t, exec (.timelyReply r) s = .next t ∧
        t.mover m = { settling with position := 0, valid := true } ∧ t.claim m = s.claim m)) ∧
  (∀ (s : State) (m : Mover) (r : FieldReply) (x : DriveReport) (n : Station), s.Brings m r x →
    (m = .windlass → s.declaration = none) → (s.mover m).command = some x.command →
    (∀ g ∈ s.queue, g.commands m = true → g.stage ≠ .unsent) →
    let before := s.mover m
    let k := s.params.modules.get m
    let target := before.target.getD 0
    let asked := (s.setModule k { s.module k with score := min 15 ((s.module k).score + 1) }).setMover m
      { before with position := 0 }
    before.state = .homing → before.recovery = true → r.switches.getLsbD (homeSwitchOf m) = true →
    (s.claim m).holder = .station n → (s.claim m).ending = .notEnding →
    (permitCheck asked m before.attended (.toward target) = none →
      ∃ t, exec (.timelyReply r) s = .next t ∧
        t.mover m =
          { before with
            state := .moving, position := 0, valid := true, recovery := false, travel := none, stall := none
            settle := none, pause := none, homingTravel := none } ∧
        t.claim m = s.claim m ∧
        QueueFrame.fresh k (.drive m target (tolerance m)) ∈ t.queue) ∧
    (s.PartnerLaw → ∀ why, permitCheck asked m before.attended (.toward target) = some why →
      ∃ t, exec (.timelyReply r) s = .next t ∧
        t.mover m =
          { before with
            state := .halted, position := 0, valid := true, recovery := false, travel := none, stall := none
            settle := none, pause := none, homingTravel := none, target := none, linkLost := false, haltCause := none
            deferred := none, poll := .idle, live := before.live.filter fun l => !l.driving } ∧
        (t.claim m).holder = .station n ∧ (t.claim m).lease = some .rest ∧
        (t.claim m).deadline = some (s.now + 120000) ∧
        ((s.station n).attached = true → (t.station n).status.getLsbD 3 = true) ∧
        ∀ ref, before.deferred = some ref → s.Awaits ref →
          t.hasReply ref .ended why [0, 1, wordOfNat before.attempts, wordOfNat before.lastFault.code])) ∧
  (∀ (s : State) (m : Mover) (r : FieldReply) (x : DriveReport), s.Brings m r x → s.PartnerLaw →
    (m = .windlass → s.declaration = none) → (s.mover m).command = some x.command →
    let before := s.mover m
    (∀ g ∈ s.queue, g.commands m = true → g.stage ≠ .unsent) ∨ before.stall ≠ none →
    before.state = .moving → before.valid = false → x.status = .stopped → x.status ∉ before.seen →
    (s.claim m).holder = .deck → (s.claim m).ending = .notEnding → (s.claim m).passPending = false →
    (∀ l, before.live = some l → l.driving = true) →
    let position := (x.position.map fun p => p.toInt).getD before.position
    ∃ t, exec (.timelyReply r) s = .next t ∧
      t.mover m =
        { before with
          state := .unhomed, position := position, seen := before.seen ++ [.stopped], target := none, recovery := false
          linkLost := false, haltCause := none, deferred := none, poll := .idle, live := none, travel := none
          stall := none, settle := none, pause := none, homingTravel := none } ∧
      t.claim m = s.claim m ∧ (∀ k, (t.station k).status = (s.station k).status) ∧
      (m = .windlass → t.creepReference = position ∧ t.creepFlag = false))

/-- R35: the pause ends with its 2 s and the confirmation of the halt frame, whichever is later. The 2 s pass with the
frame not yet confirmed, or the frame is confirmed (R132) before the 2 s: the pause goes on. At its end, the permit
check passed, the mover homes at attempt count 4, settles within tolerance, or drives again; the check failed, it is
HALTED and the sequence ends with the permit reason (R41, R42); with the link lost it is FAULTED instead (R39). That a
row's reply is timely, and that an expiry finds the clock at its deadline, are the model's (log entries 3 and 2). -/
def Obligations.RecoveryPauseEndsInARedrive : Prop :=
  (∀ (s : State) (m : Mover) (p : Pause) (target : Int), s.Kept → s.heldDown = false →
    (s.mover m).state = .recovering → (s.mover m).pause = some p → p.elapsed = false →
    (s.mover m).target = some target →
    (p.confirmed = false →
      exec (.recoveryPauseEnd m) s = .next
        { s.setMover m { s.mover m with pause := some { p with elapsed := true } } with now := max s.now p.deadline }) ∧
    (p.confirmed = true → (s.mover m).linkLost = false →
      permitCheck s m (s.mover m).attended (.toward target) = none →
      ∃ t, exec (.recoveryPauseEnd m) s = .next t ∧ (t.mover m).attempts = (s.mover m).attempts ∧
        (t.mover m).target = some target ∧ (t.mover m).pause = none ∧ (∀ k, k ≠ m → t.mover k = s.mover k) ∧
        if (s.mover m).attempts = 4 then
          (t.mover m).state = .homing ∧ (t.mover m).recovery = true ∧ (t.mover m).valid = false ∧
          QueueFrame.fresh (s.params.modules.get m) (.home m none) ∈ t.queue
        else if withinTolerance m (s.mover m).position target = true then
          (t.mover m).state = .settling ∧ (t.mover m).valid = (s.mover m).valid ∧
          (t.mover m).settle = some (max s.now p.deadline + settleTime m target)
        else
          (t.mover m).state = .moving ∧ (t.mover m).valid = (s.mover m).valid ∧
          QueueFrame.fresh (s.params.modules.get m) (.drive m target (tolerance m)) ∈ t.queue) ∧
    (∀ n why, p.confirmed = true → (s.claim m).holder = .station n → (s.claim m).ending = .notEnding →
      (s.mover m).linkLost = true ∨ permitCheck s m (s.mover m).attended (.toward target) = some why →
      ∃ t, exec (.recoveryPauseEnd m) s = .next t ∧ t.now = max s.now p.deadline ∧ (t.mover m).target = none ∧
        (t.mover m).deferred = none ∧ (t.mover m).pause = none ∧ (t.mover m).linkLost = false ∧
        (t.mover m).valid = (s.mover m).valid ∧ (t.mover m).position = (s.mover m).position ∧
        (t.mover m).attempts = (s.mover m).attempts ∧ (∀ k, k ≠ m → t.mover k = s.mover k) ∧
        (t.claim m).holder = .station n ∧ (t.claim m).lease = some .rest ∧
        (t.claim m).deadline = some (max s.now p.deadline + 120000) ∧
        if (s.mover m).linkLost then
          (t.mover m).state = .faulted ∧ (t.mover m).lastFault = .linkLost ∧
          ((s.station n).attached = true → (t.station n).status.getLsbD 4 = true) ∧
          ∀ ref, (s.mover m).deferred = some ref → s.Awaits ref →
            t.hasReply ref .ended .motionFault
              [wordOf (s.mover m).position, flagWord (s.mover m).valid, wordOfNat (s.mover m).attempts,
               wordOfNat FaultCode.linkLost.code]
        else
          (t.mover m).state = .halted ∧ (t.mover m).lastFault = (s.mover m).lastFault ∧
          ((s.station n).attached = true → (t.station n).status.getLsbD 3 = true) ∧
          ∀ ref, (s.mover m).deferred = some ref → s.Awaits ref →
            t.hasReply ref .ended why
              [wordOf (s.mover m).position, flagWord (s.mover m).valid, wordOfNat (s.mover m).attempts,
               wordOfNat (s.mover m).lastFault.code])) ∧
  (∀ (s : State) (m : Mover) (r : FieldReply) (x : SideFlight) (p : Pause), s.Kept → s.OneMoverEach →
    let k := s.params.modules.get m
    s.Answers k r → s.queue.find? (fun g => g.answeredBy k r) = none →
    s.sideFlights.find? (fun y => y.answeredBy k r) = some x → x.kind = .halt m → s.slotHolds m r.seq = true →
    (s.mover m).state = .recovering → (s.mover m).pause = some p → p.confirmed = false →
    (m = .windlass → s.declaration = none) →
    let before := s.mover m
    let position := ((r.drive.bind fun d => d.position).map fun w => w.toInt).getD before.position
    ∃ t, exec (.timelyReply r) s = .next t ∧ t.haltSlots.get m = none ∧ (t.mover m).position = position ∧
      (p.elapsed = false →
        (t.mover m).state = .recovering ∧ (t.mover m).pause = some { p with confirmed := true } ∧
        (t.mover m).attempts = before.attempts ∧ (t.mover m).target = before.target ∧ t.claim m = s.claim m) ∧
      (p.elapsed = true → before.linkLost = false → before.attempts ≠ 4 → ∀ target, before.target = some target →
        permitCheck
            ((s.setModule k { s.module k with score := min 15 ((s.module k).score + 1) }).setMover m
              { before with position := position })
            m before.attended (.toward target) = none →
        (t.mover m).pause = none ∧ (t.mover m).attempts = before.attempts ∧ t.claim m = s.claim m ∧
        if withinTolerance m position target = true then
          (t.mover m).state = .settling ∧ (t.mover m).settle = some (s.now + settleTime m target)
        else
          (t.mover m).state = .moving ∧
          QueueFrame.fresh k (.drive m target (tolerance m)) ∈ t.queue))

/-! ### Held orders -/

/-- R112: CONCUR that leaves marks. R113: DECLINE. R114: the expiry of a held order: the entry leaves the list,
HOLD_RESOLVED is raised in its orderer, and the held order is refused. R111: CONCUR that removes the last marks of a
held SET_POINT: the point is still a writable one, so the order is applied as R13 gives, whatever window now covers it;
and CONCUR that removes the last marks of any held order, which is judged anew: a SET_POINT refused where its point or level
fits no longer, a RECALL_SCENE applied as R16 gives, from the scene R89 then names, or refused, with nothing written.
The refusals of CONCUR and DECLINE in the order of their checks. That an expiry finds the clock at its deadline is the
model's (log entry 2). -/
def Obligations.HeldOrdersWaitEndOrAreApplied : Prop :=
  (∀ (s : State) (h : HeldEntry), s.Kept → s.HeldLaw → s.heldDown = false → h ∈ s.held →
     (∃ e ∈ (s.station h.order.station).intake, e.serial = h.order.serial) →
     (∀ e ∈ (s.station h.order.station).intake, e.serial = h.order.serial → e.code = h.what.code) →
     let own := fun n : Station => markOf (windowIndex n false) ||| markOf (windowIndex n true)
     let gone := fun t : State =>
       t.held = s.held.filter (fun x => x.hold != h.hold) ∧ t.points = s.points ∧ t.queue = s.queue ∧
       (t.station h.order.station).status.getLsbD 9 = true ∧
       (t.station h.order.station).fault = (s.station h.order.station).fault
     (∀ o, s.Takes o → o.target.toNat = h.hold.toNat → o.words = [] → h.marks &&& own o.station ≠ 0 →
       h.marks &&& ~~~(own o.station) ≠ 0 →
       exec (.concur o) s = .next (
         ({ s with held := s.held.map fun x =>
             if x.hold = h.hold then { x with marks := h.marks &&& ~~~(own o.station) } else x } : State).answered
           codeConcur o .done .noReason [wordOfNat (markCount (h.marks &&& ~~~(own o.station)))])) ∧
     (∀ o, s.Takes o → o.target.toNat = h.hold.toNat → o.words = [] → h.marks &&& own o.station ≠ 0 →
       ∃ t, exec (.decline o) s = .next t ∧ gone t ∧ t.hasReply h.order .refused .declined [] ∧
         t.hasReply (s.nextRef o) .done .noReason []) ∧
     (∃ t, exec (.holdExpiry h.hold) s = .next t ∧ gone t ∧ t.hasReply h.order .refused .holdExpired [] ∧
       t.now = max s.now h.deadline)) ∧
  (∀ (s : State) (o : OrderFrame) (h : HeldEntry) (p : Nat) (level fade : Int) (e : PointEntry),
     s.Kept → s.HeldLaw → s.Takes o → h ∈ s.held → h.what = .setPoint p level fade →
     o.target.toNat = h.hold.toNat → o.words = [] →
     h.marks &&& ~~~(markOf (windowIndex o.station false) ||| markOf (windowIndex o.station true)) = 0 →
     s.writable? p = some e → levelValid e.kind level = true → 0 ≤ fade → fade ≤ 600 →
     -32768 ≤ level → level < 32768 → (∃ x ∈ (s.station h.order.station).intake, x.serial = h.order.serial) →
     ∃ t, exec (.concur o) s = .next t ∧
       t.held = s.held.filter (fun x => x.hold != h.hold) ∧
       t.points = (writePoint p level fade (.station h.order.station) s).points ∧
       t.queue = (writePoint p level fade (.station h.order.station) s).queue ∧
       t.hasReply (s.nextRef o) .done .noReason [0] ∧
       t.hasReply h.order .done (if s.activeForces p = [] then .noReason else .forced)
         [wordOf (largestOr level (s.activeForces p))] ∧
       (t.station h.order.station).status.getLsbD 9 = true) ∧
  (∀ (s : State) (o : OrderFrame) (h : HeldEntry), s.Kept → s.HeldLaw → s.Takes o → h ∈ s.held → h.what.InWords →
     o.target.toNat = h.hold.toNat → o.words = [] →
     h.marks &&& ~~~(markOf (windowIndex o.station false) ||| markOf (windowIndex o.station true)) = 0 →
     ∃ t, exec (.concur o) s = .next t ∧ t.held = s.held.filter (fun x => x.hold != h.hold) ∧
       t.points = (s.writesOf s h).points ∧ t.queue = (s.writesOf s h).queue ∧ s.Released t h ∧
       t.hasReply (s.nextRef o) .done .noReason [0]) ∧
  (∀ (s : State) (o : OrderFrame), s.Kept → s.HeldLaw → s.Takes o →
     let refused := fun why : Reason =>
       exec (.concur o) s = .next (s.answered codeConcur o .refused why []) ∧
       exec (.decline o) s = .next (s.answered codeDecline o .refused why [])
     ((∀ h ∈ s.held, h.hold.toNat ≠ o.target.toNat) → refused .badTarget) ∧
     (∀ h ∈ s.held, h.hold.toNat = o.target.toNat →
       (o.words ≠ [] → refused .badOperand) ∧
       (o.words = [] → (∀ i : Fin 6, h.marks.getLsbD i.val = true → windowOwner i ≠ o.station) →
         refused .noAuthority)))

/-! ### The field link -/

/-- R138, R139: a FENCE with nothing to wait for closes the open frames and is answered DONE with 0; one with frames
that carry writes marks them and stands in the table unanswered; its two refusals. -/
def Obligations.FenceMarksWhatIsWritten : Prop :=
  (∀ (s : State) (o : OrderFrame), s.Kept → s.Takes o →
    (o.target ≠ 0 → exec (.fence o) s = .next (s.answered codeFence o .refused .badTarget [])) ∧
    (o.target = 0 → o.words ≠ [] → exec (.fence o) s = .next (s.answered codeFence o .refused .badOperand []))) ∧
  ∀ (s : State) (o : OrderFrame), s.Kept → s.Takes o → o.target = 0 → o.words = [] →
    let closed := s.queue.map fun f => { f with isOpen := false }
    let waiting := s.pointNumbers.filter fun p =>
      match s.writable? p with
      | some e => e.writePending
      | none => false
    ((∀ f ∈ s.queue, f.isPoll = true) → waiting = [] →
      exec (.fence o) s = .next (({ s with queue := closed } : State).answered codeFence o .done .noReason [0])) ∧
    (((∃ f ∈ s.queue, f.isPoll = false) ∨ waiting ≠ []) →
      exec (.fence o) s = .next
        (({ s with
          queue := closed.map fun f => if f.isPoll then f else addMarks [s.nextSerial] f
          fences := s.fences ++ [⟨s.nextRef o, waiting, 0⟩] } : State).entered codeFence o))

/-- R151: TERMINAL_WRITE, every check passed: its frame enters the queue behind its module's frames, the open one
closed, or is held while the queue has 18 records; the order waits. Its refusals in the order of its checks. -/
def Obligations.TerminalWriteIsHanded : Prop :=
  (∀ (s : State) (o : OrderFrame), s.Kept → s.Takes o →
    let refused := fun (why : Reason) (data : List Word) =>
      exec (.terminalWrite o) s = .next (s.answered codeTerminalWrite o .refused why data)
    (512 ≤ o.target.toNat → refused .badTarget []) ∧
    (o.target.toNat < 512 → o.words.length ≠ 1 → refused .badOperand []) ∧
    (o.target.toNat < 512 → ∀ w, o.words = [w] →
      (w.toInt < 0 ∨ 1000 < w.toInt → refused .badOperand []) ∧
      (0 ≤ w.toInt → w.toInt ≤ 1000 →
        ((s.profile o.station).maint = false → refused .noAuthority []) ∧
        ((s.profile o.station).maint = true → s.SpareLaw → ∀ e ∈ s.substs, e.active = true →
          16 * e.spare.module.val + e.spare.terminal.val = o.target.toNat →
          refused .spareDirect [wordOfNat (16 * e.failed.module.val + e.failed.terminal.val)])))) ∧
  ∀ (s : State) (o : OrderFrame) (w : Word) (b : Binding), s.Kept → s.Takes o →
    o.target.toNat = 16 * b.module.val + b.terminal.val → o.words = [w] → 0 ≤ w.toInt → w.toInt ≤ 1000 →
    (s.profile o.station).maint = true → (∀ e ∈ s.substs, ¬(e.active = true ∧ e.spare = b)) →
    let frame : QueueFrame :=
      { module := b.module, body := .terminalWrite b.terminal w.toInt (s.nextRef o), isOpen := false, mergeAt := 0,
        stage := .unsent, attempt := 0, marks := [], seq := none, retired := false }
    exec (.terminalWrite o) s = .next (
      if s.queue.length < 18 then
        ({ s with queue :=
            (s.queue.map fun f => if f.module = b.module ∧ f.isOpen = true then { f with isOpen := false } else f)
              ++ [frame] } : State).entered codeTerminalWrite o
      else ({ s with awaitingRoom := s.awaitingRoom ++ [frame] } : State).entered codeTerminalWrite o)

/-- R146, R147, R149: ASSIGN_SPARE puts the entry, new or in place of a VOID one, and moves every point of the failed
binding to the spare; RELEASE_SPARE takes the entry out, and moves the points of an ACTIVE one back. A moved point's
confirmed level is unknown, no live item of it is bound to the binding it left, and its state and its write are set against
the binding it came to. The refusals of both in the order of their checks. -/
def Obligations.SparesAreAssignedAndReleased : Prop :=
  (∀ (s : State) (o : OrderFrame) (a b : Word) (failed spare : Binding), s.Kept → s.SpareLaw → s.OpenLaw → s.Takes o →
    o.target = 0 → o.words = [a, b] → bindingOf a = some failed → bindingOf b = some spare →
    (s.profile o.station).maint = true → spare ≠ failed →
    (∀ e ∈ s.substs, ¬(e.active = true ∧ e.failed = failed) ∧ e.spare ≠ failed ∧
      (e.failed ≠ failed → e.failed ≠ spare ∧ e.spare ≠ spare)) →
    (∀ p e, s.point? p = some e → e.binding ≠ spare) →
    (s.substs.length < 16 ∨ ∃ e ∈ s.substs, e.failed = failed) →
    ∃ t, exec (.assignSpare o) s = .next t ∧
      t.substs =
        (if ∃ e ∈ s.substs, e.failed = failed then
          s.substs.map fun e => if e.failed = failed then ⟨failed, spare, true⟩ else e
         else s.substs ++ [⟨failed, spare, true⟩]) ∧
      t.hasReply (s.nextRef o) .done .noReason [wordOfNat (s.pointsBoundTo failed).length] ∧
      (∀ p e, s.point? p = some e →
        ∃ e', t.point? p = some e' ∧ t.bindingInForce e' = (if e.binding = failed then spare else s.bindingInForce e) ∧
          e'.confirmed = (if e.binding = failed then none else e.confirmed) ∧
          e'.requested = e.requested ∧ e'.effective = e.effective ∧
          (e.binding ≠ failed → e'.delivery = e.delivery) ∧ (e.binding = failed → s.MovedTo t p e e' failed spare)) ∧
      t = { s with
        stations := t.stations, nextSerial := t.nextSerial, points := t.points, substs := t.substs, queue := t.queue
        awaitingRoom := t.awaitingRoom, fences := t.fences }) ∧
  (∀ (s : State) (o : OrderFrame) (a : Word) (e : SubstEntry), s.Kept → s.SpareLaw → s.Takes o →
    o.target = 0 → o.words = [a] → bindingOf a = some e.failed → e ∈ s.substs → e.active = false →
    (s.profile o.station).maint = true →
    exec (.releaseSpare o) s = .next (
      ({ s with substs := s.substs.filter fun x => x.failed != e.failed } : State).answered codeReleaseSpare o
        .done .noReason [0])) ∧
  (∀ (s : State) (o : OrderFrame) (a : Word) (e : SubstEntry), s.Kept → s.SpareLaw → s.OpenLaw → s.Takes o →
    o.target = 0 → o.words = [a] → bindingOf a = some e.failed → e ∈ s.substs → e.active = true →
    (s.profile o.station).maint = true →
    ∃ t, exec (.releaseSpare o) s = .next t ∧ t.substs = s.substs.filter (fun x => x.failed != e.failed) ∧
      t.hasReply (s.nextRef o) .done .noReason [wordOfNat (s.pointsBoundTo e.failed).length] ∧
      (∀ p x, s.point? p = some x →
        ∃ x', t.point? p = some x' ∧ t.bindingInForce x' = (if x.binding = e.failed then e.failed else s.bindingInForce x) ∧
          x'.confirmed = (if x.binding = e.failed then none else x.confirmed) ∧
          x'.requested = x.requested ∧ x'.effective = x.effective ∧
          (x.binding ≠ e.failed → x'.delivery = x.delivery) ∧
          (x.binding = e.failed → s.MovedTo t p x x' e.spare e.failed)) ∧
      t = { s with
        stations := t.stations, nextSerial := t.nextSerial, points := t.points, substs := t.substs, queue := t.queue
        awaitingRoom := t.awaitingRoom, fences := t.fences }) ∧
  (∀ (s : State) (o : OrderFrame), s.Kept → s.SpareLaw → s.Takes o →
    let refused := fun (why : Reason) (data : List Word) =>
      exec (.assignSpare o) s = .next (s.answered codeAssignSpare o .refused why data)
    let code := fun b : Binding => wordOfNat (16 * b.module.val + b.terminal.val)
    (o.target ≠ 0 → refused .badTarget []) ∧
    (o.target = 0 → o.words.length ≠ 2 → refused .badOperand []) ∧
    (o.target = 0 → ∀ a b, o.words = [a, b] →
      (512 ≤ a.toNat ∨ 512 ≤ b.toNat → refused .badOperand []) ∧
      (∀ failed spare, bindingOf a = some failed → bindingOf b = some spare →
        let mapped := fun e : SubstEntry => (e.active = true ∧ e.failed = failed) ∨ e.spare = failed
        let taken := fun e : SubstEntry => e.failed ≠ failed ∧ (e.failed = spare ∨ e.spare = spare)
        ((s.profile o.station).maint = false → refused .noAuthority []) ∧
        ((s.profile o.station).maint = true →
          (spare = failed → refused .selfSpare []) ∧
          (spare ≠ failed →
            (∀ e ∈ s.substs, mapped e → refused .alreadyMapped [code e.failed]) ∧
            ((∀ e ∈ s.substs, ¬mapped e) →
              (∀ e ∈ s.substs, taken e → refused .spareTaken [code e.failed]) ∧
              ((∀ e ∈ s.substs, ¬taken e) →
                (∀ p x, s.point? p = some x → x.binding = spare →
                  (∀ q y, q < p → s.point? q = some y → y.binding ≠ spare) → refused .spareInUse [wordOfNat p]) ∧
                ((∀ p x, s.point? p = some x → x.binding ≠ spare) → 16 ≤ s.substs.length →
                  (∀ e ∈ s.substs, e.failed ≠ failed) → refused .mapFull [])))))))) ∧
  (∀ (s : State) (o : OrderFrame), s.Kept → s.Takes o →
    let refused := fun why : Reason => exec (.releaseSpare o) s = .next (s.answered codeReleaseSpare o .refused why [])
    (o.target ≠ 0 → refused .badTarget) ∧
    (o.target = 0 → o.words.length ≠ 1 → refused .badOperand) ∧
    (o.target = 0 → ∀ a, o.words = [a] →
      (512 ≤ a.toNat → refused .badOperand) ∧
      (∀ failed, bindingOf a = some failed →
        ((∀ e ∈ s.substs, e.failed ≠ failed) → refused .badOperand) ∧
        ((∃ e ∈ s.substs, e.failed = failed) → (s.profile o.station).maint = false → refused .noAuthority))))

/-- R126, R128: with nothing ready nothing is sent; a halt frame goes before all else, and retires the command frames of its
mover: those that await resend leave the queue, those in flight stay as retired, with no fence mark (R124); a LEVELS frame
is sent with the
level each item's point then has, its points QUEUED becoming SENT. R126, R127: which queue frame is ready when no halt frame
and no motion poll is. A resend keeps its number, raises the attempt and changes no point. A motion poll is sent with a new
number and falls due again 25 ms later (R136). The first send of a DRIVE or HOME frame makes it the mover's command and
starts its timers (R30, R31); a stall window that runs goes on (R28). That a return poll of a PRESENT module is sent as any
POLL (log entry 46), that a homing's travel starts at 0 with no last position (log entry 35), and that a DRIVE sent in
SETTLING starts no timer (log entry 12) are the model's. -/
def Obligations.FrameSendSendsTheReadyFrame : Prop :=
  (∀ (s : State), s.Kept → s.heldDown = false →
    let replyBy := fun k : Fin 32 => s.now + if 8 ≤ (s.module k).score then 20 else 60
    (s.ready = none → exec .frameSend s = .next s) ∧
    (∀ m h, s.haltSlots.get m = some h → h.stage = .waitingToSend →
      (∀ k ∈ allMovers.takeWhile (fun k => k != m), ∀ x, s.haltSlots.get k = some x → x.stage = .inFlight) →
      let k := s.params.modules.get m
      ∃ t seq, exec .frameSend s = .next t ∧
        (∀ q, h.seq = some q → seq = q ∧ t.wireSeq = s.wireSeq ∧ t.movers = s.movers) ∧
        (h.seq = none →
          seq = (if (s.module k).heldCommand = some s.wireSeq then s.wireSeq + 1 else s.wireSeq) ∧
          t.wireSeq = seq + 1 ∧ t.mover m = { s.mover m with command := some seq, seen := [] }) ∧
        t.haltSlots = s.haltSlots.set (some ⟨some seq, h.attempt + 1, .inFlight⟩) m ∧
        t.sideFlights = s.sideFlights ++ [⟨k, seq, replyBy k, .halt m⟩] ∧
        t.linkOut = fieldBytes k seq h.attempt .halt [] ∧ t.now = s.now ∧
        (∀ f ∈ t.queue, f.commands m = true → f.stage ≠ .awaitingResend ∧ (f.stage.isInFlight = true → f.retired = true)) ∧
        (s.OpenLaw → ∀ f ∈ s.queue, f.commands m = true → f.stage.isInFlight = true →
          { f with retired := true, marks := [] } ∈ t.queue) ∧
        ((∀ f ∈ s.queue, f.commands m = true → f.stage ≠ .awaitingResend) →
          t.queue = s.queue.map fun f =>
            if f.commands m = true ∧ f.stage.isInFlight = true then { f with retired := true, marks := [] } else f)) ∧
    (∀ i f items, s.ready = some (.frame i f) → f.body = .levels items → f.seq = none →
      let sent := items.map fun x =>
        if x.tie = .live then
          match s.point? x.point with
          | some e => { x with level := some e.effective }
          | none => x
        else x
      ∃ t, exec .frameSend s = .next t ∧
        t.queue = s.queue.set i
          { f with body := .levels sent, stage := .inFlight (replyBy f.module), attempt := 0, seq := some s.wireSeq } ∧
        t.wireSeq = s.wireSeq + 1 ∧
        t.linkOut = fieldBytes f.module s.wireSeq 0 .levels (BitVec.ofNat 8 sent.length :: sent.flatMap itemBytes) ∧
        (∀ p, t.points[p]? = (s.points[p]?).map fun e =>
          if (∃ x ∈ items, x.tie = .live ∧ x.point = p) ∧ e.delivery = .queued then { e with delivery := .sent }
          else e) ∧
        t = { s with points := t.points, queue := t.queue, wireSeq := t.wireSeq, linkOut := t.linkOut })) ∧
  (∀ (s : State) (i : Nat) (f : QueueFrame),
    (∀ m h, s.haltSlots.get m = some h → h.stage = .inFlight) →
    (∀ m, (s.mover m).poll = .due →
      ∃ x ∈ s.sideFlights, x.module = s.params.modules.get m ∧ ∃ j, x.kind = .motionPoll j) →
    (s.queue.filter fun g => g.stage.isInFlight).length < 12 → s.FirstReady i f → s.ready = some (.frame i f)) ∧
  (∀ (s : State), s.Kept → s.heldDown = false →
    let replyBy := fun k : Fin 32 => s.now + if 8 ≤ (s.module k).score then 20 else 60
    let read := fun items : List Item => items.map fun x =>
      if x.tie = .live then
        match s.point? x.point with
        | some e => { x with level := some e.effective }
        | none => x
      else x
    (∀ i f, s.ready = some (.frame i f) → ∀ q, f.seq = some q → f.isPoll = false →
      let body := match f.body with | .levels items => FrameBody.levels (read items) | other => other
      exec .frameSend s = .next
        { s with
          queue := s.queue.set i
            { f with body := body, stage := .inFlight (replyBy f.module), attempt := f.attempt + 1 }
          linkOut := fieldBytes f.module q (f.attempt + 1) body.kind body.bytes }) ∧
    (∀ m, (∀ j h, s.haltSlots.get j = some h → h.stage = .inFlight) → (s.mover m).poll = .due →
      (∀ x ∈ s.sideFlights, x.module = s.params.modules.get m → ∃ j, x.kind = .halt j) →
      (∀ j ∈ allMovers.takeWhile (fun j => j != m), (s.mover j).poll ≠ .due) →
      let k := s.params.modules.get m
      exec .frameSend s = .next
        { s.setMover m { s.mover m with poll := .waiting (s.now + 25) } with
          wireSeq := s.wireSeq + 1
          sideFlights := s.sideFlights ++ [⟨k, s.wireSeq, replyBy k, .motionPoll m⟩]
          linkOut := fieldBytes k s.wireSeq 0 .poll [] }) ∧
    (∀ i f, s.ready = some (.frame i f) → f.seq = none → ∀ m, f.commands m = true →
      let seq := if (s.module f.module).heldCommand = some s.wireSeq then s.wireSeq + 1 else s.wireSeq
      let r : MoverRecord := { s.mover m with command := some seq, seen := [] }
      let timed : MoverRecord :=
        if r.state = .moving ∧ f.body.kind = .drive then
          { r with
            travel := (travelTimeLimit m).map fun limit => s.now + limit
            stall := some (r.stall.getD (s.now + if m = .windlass then 4000 else 3000)) }
        else if r.state = .homing ∧ f.body = .home m none then
          { r with
            stall := some (s.now + if m = .windlass then 4000 else 3000), homingTravel := some ⟨0, none⟩ }
        else r
      exec .frameSend s = .next
        { s.setMover m timed with
          wireSeq := seq + 1
          queue := s.queue.set i { f with stage := .inFlight (replyBy f.module), attempt := 0, seq := some seq }
          linkOut := fieldBytes f.module seq 0 f.body.kind f.body.bytes }) ∧
    (∀ i f, s.ready = some (.frame i f) → f.seq = none →
      (f.body.kind = .terminalWrite ∨ (∃ latch, f.body = .poll latch false) ∨ (s.module f.module).present = true) →
      f.body.kind = .terminalWrite ∨ f.body.kind = .poll →
      exec .frameSend s = .next
        { s with
          wireSeq := s.wireSeq + 1
          queue := s.queue.set i { f with stage := .inFlight (replyBy f.module), attempt := 0, seq := some s.wireSeq }
          linkOut := fieldBytes f.module s.wireSeq 0 f.body.kind f.body.bytes }) ∧
    (∀ i f latch, s.ready = some (.frame i f) → f.seq = none → f.body = .poll latch true →
      (s.module f.module).present = false →
      exec .frameSend s = .next
        { s with
          wireSeq := s.wireSeq + 1
          modules := s.modules.set f.module { s.module f.module with returnDue := some (s.now + 1000) }
          queue := s.queue.set i { f with stage := .inFlight (replyBy f.module), attempt := 0, seq := some s.wireSeq }
          linkOut := fieldBytes f.module s.wireSeq 0 .poll [] }))

/-- R129, R133: a timely reply to a POLL of a PRESENT module that serves no latch check: the record leaves the queue, the
score rises by 1 to at most 15, and the snapshot is the reply's; the reply to a latch check ends it with LATCH_STATE
(R51). The result of a one-item LEVELS frame, by R8 (APPLIED, with a rewrite where the level is no longer the effective
one), R9 and R143 (FAULT), R144 and R150 (a spare NOT_FITTED); of a TERMINAL_WRITE (R152). R24, R25: a drive report
concerning another command gives its position alone; that a position it changes starts the stall window again is the
model's (log entry 35). R137, R11: the reply to a return poll. A reply is taken as timely because its row says so, whatever
the clock is against the deadline: that is the model's (log entry 3). -/
def Obligations.TimelyReplyRaisesTheScore : Prop :=
  (∀ (s : State) (r : FieldReply) (k : Fin 32) (f : QueueFrame), s.Kept → s.heldDown = false →
    r.module.toNat = k.val → s.queue.find? (fun g => g.answeredBy k r) = some f → f.body = .poll false false →
    (s.module k).present = true →
    ∃ t, exec (.timelyReply r) s = .next t ∧
      (t.module k).score = min 15 ((s.module k).score + 1) ∧ (t.module k).present = true ∧
      (t.module k).snapshot = some r.terminals ∧ (t.module k).lastTimely = s.now ∧
      (t.module k).failed = (s.module k).failed ∧
      (∀ d, r.drive = some d → (t.module k).heldCommand = some d.command) ∧
      (∀ j, j ≠ k → t.module j = s.module j) ∧ ∀ g ∈ t.queue, g.answeredBy k r = false) ∧
  (∀ (s : State) (r : FieldReply) (k : Fin 32) (f : QueueFrame), s.Kept → s.Answers k r →
    s.queue.find? (fun g => g.answeredBy k r) = some f → (∃ isReturn, f.body = .poll true isReturn) →
    ∃ t, exec (.timelyReply r) s = .next t ∧ t.latchCheck = false ∧ t.AllHear 20) ∧
  (∀ (s : State) (r : FieldReply) (k : Fin 32) (f : QueueFrame) (x : Item) (res : ItemResult) (e : PointEntry),
    s.Kept → s.OpenLaw → s.Answers k r → (∀ m, s.params.modules.get m ≠ k) → r.drive = none → r.results = [res] →
    s.queue.find? (fun g => g.answeredBy k r) = some f → f.body = .levels [x] → x.tie = .live →
    s.writable? x.point = some e → s.bindingInForce e = x.binding → x.binding.module = k →
    ∀ level, x.level = some level →
    let bit := x.binding.terminal.val
    ∃ t e', exec (.timelyReply r) s = .next t ∧ t.point? x.point = some e' ∧
      e'.requested = e.requested ∧ e'.effective = e.effective ∧ e'.binding = e.binding ∧
      (∀ g ∈ t.queue, g.answeredBy k r = false) ∧
      (∀ i, i ≠ bit → (t.module k).failed.getLsbD i = (s.module k).failed.getLsbD i) ∧
      (∀ j, j ≠ k → t.module j = s.module j) ∧ (t.module k).snapshot = some r.terminals ∧
      (res = .applied →
        (t.module k).failed.getLsbD bit = false ∧ e'.confirmed = some level ∧
        ((∀ g ∈ s.queue, holdsLive x.point g = true → g.answeredBy k r = true) → e.writePending = false →
          (level = e.effective → e'.delivery = .settled) ∧
          (level ≠ e.effective → e'.delivery = .queued ∧
            (e'.writePending = true ∨ ∃ g ∈ t.queue, g.stage = .unsent ∧ holdsLive x.point g = true)))) ∧
      (res ≠ .applied →
        (t.module k).failed.getLsbD bit = true ∧ e'.confirmed = none ∧
        ((s.module k).failed.getLsbD bit = false → t.AllHear 12)) ∧
      ((res = .fault ∨ (res = .notFitted ∧ ∀ y ∈ s.substs, ¬(y.active = true ∧ y.spare = x.binding))) →
        e'.delivery = .faulted ∧ t.substs = s.substs) ∧
      (res = .notFitted → s.SpareLaw → ∀ y ∈ s.substs, y.active = true → y.spare = x.binding →
        t.AllHear 15 ∧ t.bindingInForce e' = y.failed ∧ (∀ z ∈ t.substs, z.failed = y.failed → z.active = false) ∧
        e'.delivery =
          (if (s.module y.failed.module).present = false then .lost
           else if (s.module y.failed.module).failed.getLsbD y.failed.terminal.val = true then .faulted
           else .queued))) ∧
  (∀ (s : State) (r : FieldReply) (k : Fin 32) (f : QueueFrame) (terminal : Fin 16) (level : Int) (order : OrderRef)
      (res : ItemResult),
    s.Kept → s.Answers k r → (∀ m, s.params.modules.get m ≠ k) → r.drive = none → r.results = [res] →
    s.queue.find? (fun g => g.answeredBy k r) = some f → f.body = .terminalWrite terminal level order →
    s.Awaits order →
    ∃ t, exec (.timelyReply r) s = .next t ∧ (∀ g ∈ t.queue, g.answeredBy k r = false) ∧
      (t.module k).failed.getLsbD terminal.val = (res != .applied) ∧
      t.hasReply order .done .noReason [match res with | .applied => 0 | .fault => 1 | .notFitted => 2]) ∧
  (∀ (s : State) (m : Mover) (r : FieldReply) (x : DriveReport), s.Brings m r x →
    (m = .windlass → s.declaration = none) → (s.mover m).command ≠ some x.command →
    s.slotHolds m x.command = false →
    let before := s.mover m
    let position := (x.position.map fun p => p.toInt).getD before.position
    let window := if m = .windlass then 4000 else 3000
    ∃ t, exec (.timelyReply r) s = .next t ∧
      t.mover m =
        { before with
          position := position
          stall := if position = before.position then before.stall else before.stall.map fun _ => s.now + window } ∧
      t.claim m = s.claim m) ∧
  (∀ (s : State) (r : FieldReply) (k : Fin 32) (f : QueueFrame), s.Kept → s.OpenLaw → s.heldDown = false →
    r.module.toNat = k.val → (s.module k).present = false → (∀ m, s.params.modules.get m ≠ k) → r.drive = none →
    s.queue.find? (fun g => g.answeredBy k r) = some f → (∃ latch isReturn, f.body = .poll latch isReturn) →
    ∃ t, exec (.timelyReply r) s = .next t ∧ t.AllHear 14 ∧ (∀ g ∈ t.queue, g.answeredBy k r = false) ∧
      t.module k =
        { s.module k with
          present := true, score := 4, snapshot := some r.terminals, lastTimely := s.now, firstPoll := false
          returnDue := none } ∧
      ∀ p e, s.point? p = some e → (s.bindingInForce e).module = k →
        ∃ e', t.point? p = some e' ∧
          (e.kind = .sense → e'.delivery = .settled) ∧
          (e.kind ≠ .sense → e.delivery = .lost → e'.delivery = .queued ∧
            (e'.writePending = true ∨ ∃ g ∈ t.queue, g.stage = .unsent ∧ holdsLive p g = true)))

/-- R130, R137: a late reply of a PRESENT module that drives no mover gives its snapshot and nothing else; one of an
ABSENT module, or of no module, is discarded. R129: a reply whose check word is wrong is discarded. R83, R49: a reply of
a mover's PRESENT module, late or answering a POLL, sets the switches of its machine, which then are seen; R100: it
halts the partner in motion or RECOVERING whose interlock it shows not met. R54: a count of the resting windlass that
first differs from the creep reference by 5 raises CHAIN_CREEP. An input reported −1 is taken as unknown, when a row
counts as late, a halt in RECOVERING with the link lost, and the switches before the drive report of one reply are the
model's (log entries 25, 3, 20 and 29). -/
def Obligations.LateAndDiscardedReplies : Prop :=
  (∀ (s : State) (r : FieldReply) (k : Fin 32), s.Kept → s.heldDown = false → r.module.toNat = k.val →
    (∀ m, s.params.modules.get m ≠ k) → r.drive = none →
    exec (.lateReply r) s = .next (
      if (s.module k).present then
        { s with
          modules := s.modules.set k { s.module k with snapshot := some r.terminals }
          points := s.points.map fun e =>
            let b := inForce s.substs e.binding
            if e.kind = .sense ∧ b.module = k then
              { e with
                confirmed := if r.terminals[b.terminal] = -1 then none else some r.terminals[b.terminal].toInt
                delivery := .settled }
            else e }
      else s)) ∧
  (∀ (s : State) (r : FieldReply), s.Kept → s.heldDown = false →
    (32 ≤ r.module.toNat ∨ ∃ k : Fin 32, r.module.toNat = k.val ∧ (s.module k).present = false) →
    exec (.lateReply r) s = .next s) ∧
  (∀ (s : State) (bytes : List Byte), s.Kept → s.heldDown = false → checkWordRight bytes = false →
    exec (.replyDiscarded bytes) s = .next s) ∧
  (∀ (s : State) (m : Mover) (r : FieldReply) (c : Instr), s.OneMoverEach → s.Reports m r c →
    let made := fun i : Nat => r.switches.getLsbD i
    let kept := { s.cond with seen := s.cond.seen.set true m }
    ∃ t, exec c s = .next t ∧ (t.module (s.params.modules.get m)).snapshot = some r.terminals ∧
      (m = .hatch →
        t.cond = { kept with hatchClosed := made 0, hatchOpen := made 1, latchMade := made 2 } ∧
        t.brakeApplied = s.brakeApplied) ∧
      (m = .platform →
        t.cond = { kept with stowed := made 3, deckSwitch := made 4 } ∧ t.brakeApplied = s.brakeApplied) ∧
      (m = .windlass → t.cond = { kept with anchorHome := made 5 } ∧ t.brakeApplied = made 6) ∧
      ∀ p, partnerOf m = some p →
        let met := isActive (s.mover m).state = false ∧
          if m = .hatch then made 0 = true ∨ made 1 = true else made 3 = true ∨ made 4 = true
        let before := s.mover p
        let confirmed := (before.pause.map fun x => x.confirmed) = some true
        let stopped : MoverRecord :=
          { before with
            state := .halting, haltCause := some .permitInterlock, poll := .idle, travel := none, stall := none
            settle := none, pause := none, homingTravel := none }
        (met ∨ isMotionOrRecovering before.state = false → t.mover p = before) ∧
        (¬met → isMotion before.state = true →
          t.mover p = { stopped with live := before.live.filter fun l => !l.driving } ∧
          (t.haltSlots.get p).isSome = true) ∧
        (¬met → before.state = .recovering → ¬confirmed → t.mover p = stopped) ∧
        (¬met → before.state = .recovering → confirmed →
          (t.mover p).state =
            (if before.linkLost then .faulted else if before.valid then .halted else .unhomed) ∧
          (t.mover p).deferred = none ∧
          ∀ ref, before.deferred = some ref → s.Awaits ref → before.linkLost = false →
            t.hasReply ref .ended .permitInterlock
              [wordOf before.position, flagWord before.valid, wordOfNat before.attempts,
               wordOfNat before.lastFault.code])) ∧
  (∀ (s : State) (r : FieldReply) (c : Instr) (x : DriveReport) (p : Word), s.OneMoverEach → s.Reports .windlass r c →
    isActive s.movers.windlass.state = false → s.declaration = none → r.drive = some x → x.position = some p →
    let apart := 5 ≤ p.toInt - s.creepReference ∨ 5 ≤ s.creepReference - p.toInt
    ∃ t, exec c s = .next t ∧ t.movers.windlass.position = p.toInt ∧
      t.movers.windlass.state = s.movers.windlass.state ∧ t.movers.windlass.valid = s.movers.windlass.valid ∧
      t.creepReference = s.creepReference ∧
      (apart → s.creepFlag = false → t.creepFlag = true ∧ t.AllHear 19) ∧
      (¬apart ∨ s.creepFlag = true →
        t.creepFlag = s.creepFlag ∧ ∀ n, (t.station n).status = (s.station n).status))

/-- R131, R133, R134: the deadline of a queue frame's first or second attempt expires, the frame not retired: it awaits
resend and the score falls by 2. A POLL, or a frame at attempt 2, is lost: the record leaves, a point with an item in it
becomes LOST (R10), a mover in a motion state is halted with PERMIT_LINK and in RECOVERING or HALTING marked link-lost
(R39(a)), a TERMINAL_WRITE is ENDED with PERMIT_LINK, a latch check is over (R51). A retired frame leaves the queue and
is not lost. A halt frame waits again in its slot, a motion poll is dropped. A score that falls below 4 halts the mover
in motion with PERMIT_LINK (R39(c)). When the score falls to 0 the module goes ABSENT: its frames leave the queue,
MODULE_ABSENT is raised, its points become LOST (R11), and its mover, if active, faults with LINK_LOST (R39(b)); so it goes
at the expiry of a queue frame, of a halt frame and of a motion poll. R137, R152: of an ABSENT module the expiry of a return
poll changes nothing but that its record leaves, and a TERMINAL_WRITE is resent and at its last attempt lost. That a
return poll of a PRESENT module expires as any POLL, and that an expiry finds the clock at its deadline, are the model's
(log entries 46 and 2). -/
def Obligations.ExpiredDeadlineLowersTheScore : Prop :=
  (∀ (s : State) (k : Fin 32) (seq : Word) (f : QueueFrame) (d : Nat), s.Kept → s.heldDown = false →
    s.queue.find? (QueueFrame.inFlightAs k seq) = some f → f.stage = .inFlight d → (s.module k).present = true →
    (∀ a b, s.params.modules.get a = s.params.modules.get b → a = b) →
    (3 ≤ (s.module k).score → f.attempt < 2 → f.retired = false → f.isPoll = false →
      (∀ m, s.params.modules.get m = k → isMotion (s.mover m).state = true → 6 ≤ (s.module k).score) →
      exec (.replyDeadlineExpiry k seq) s = .next
        { s with
          now := max s.now d
          queue := s.queue.map fun g => if g.inFlightAs k seq then { g with stage := .awaitingResend } else g
          modules := s.modules.set k { s.module k with score := (s.module k).score - 2 } }) ∧
    ((s.module k).score ≤ 2 →
      ∃ t, exec (.replyDeadlineExpiry k seq) s = .next t ∧ (t.module k).present = false ∧ (t.module k).score = 0 ∧
        (t.module k).snapshot = (s.module k).snapshot ∧ (t.module k).failed = (s.module k).failed ∧
        (t.module k).returnDue = some (max s.now d + 1000) ∧
        (∀ x ∈ t.sideFlights, x.module ≠ k) ∧
        (∀ n, (s.station n).attached = true → (t.station n).status.getLsbD 13 = true) ∧
        ∀ m, s.params.modules.get m = k → t.haltSlots.get m = none)) ∧
  (∀ (s : State) (k : Fin 32) (seq : Word) (f : QueueFrame) (d : Nat), s.Kept → s.heldDown = false →
    s.queue.find? (QueueFrame.inFlightAs k seq) = some f → f.stage = .inFlight d → (s.module k).present = true →
    s.OneMoverEach → 3 ≤ (s.module k).score → f.retired = false → f.isPoll = true ∨ f.attempt = 2 →
    (∀ m, s.params.modules.get m = k → isMotion (s.mover m).state = true → 6 ≤ (s.module k).score) →
    ∃ t, exec (.replyDeadlineExpiry k seq) s = .next t ∧ t.now = max s.now d ∧
      (∀ g ∈ t.queue, g.inFlightAs k seq = false) ∧ (t.module k).score = (s.module k).score - 2 ∧
      (t.module k).present = true ∧
      (∀ latch isReturn, f.body = .poll latch isReturn → t.latchCheck = (s.latchCheck && !latch)) ∧
      (∀ items, f.body = .levels items → ∀ x ∈ items, x.tie = .live → ∀ e, s.writable? x.point = some e →
        (∀ g ∈ s.queue, holdsLive x.point g = true → g.inFlightAs k seq = true) → e.writePending = false →
        t.point? x.point = some { e with confirmed := none, delivery := .lost } ∧
        (e.delivery ≠ .lost → t.AllHear 11)) ∧
      (∀ terminal level order, f.body = .terminalWrite terminal level order → s.Awaits order →
        t.hasReply order .ended .permitLink []) ∧
      (∀ m v, f.body = .home m (some v) → ∀ x ref, s.declaration = some x → x.order = some ref → s.Awaits ref →
        t.declaration = none ∧ t.hasReply ref .ended .permitLink []) ∧
      (∀ m, f.commands m = true → (∀ v, f.body ≠ .home m (some v)) →
        (isActive (s.mover m).state = false → t.mover m = s.mover m) ∧
        (isMotion (s.mover m).state = true →
          t.mover m =
            { s.mover m with
              state := .halting, haltCause := some .permitLink, linkLost := true, poll := .idle, travel := none
              stall := none, settle := none, pause := none, homingTravel := none
              live := (s.mover m).live.filter fun l => !l.driving } ∧
          (t.haltSlots.get m).isSome = true) ∧
        ((s.mover m).state = .recovering ∨ (s.mover m).state = .halting →
          t.mover m = { s.mover m with linkLost := true })) ∧
      (∀ y ∈ s.fences, f.marks.contains y.order.serial = true → s.Awaits y.order →
        (∃ z ∈ t.fences, z.order = y.order ∧ z.losses = y.losses + 1) ∨
          t.hasReply y.order .done .doneWithLoss [wordOfNat (y.losses + 1)])) ∧
  (∀ (s : State) (k : Fin 32) (seq : Word) (x : SideFlight), s.Kept → s.heldDown = false →
    s.queue.find? (QueueFrame.inFlightAs k seq) = none →
    s.sideFlights.find? (fun y => y.module == k && y.seq == seq) = some x → (s.module k).present = true →
    s.OneMoverEach → 3 ≤ (s.module k).score →
    (∀ m, s.params.modules.get m = k → isMotion (s.mover m).state = true → 6 ≤ (s.module k).score) →
    let less : State :=
      { s with
        now := max s.now x.deadline
        sideFlights := s.sideFlights.filter fun y => !(y.module == k && y.seq == seq)
        modules := s.modules.set k { s.module k with score := (s.module k).score - 2 } }
    (∀ m, x.kind = .motionPoll m → exec (.replyDeadlineExpiry k seq) s = .next less) ∧
    (∀ m, x.kind = .halt m → ∀ h, s.haltSlots.get m = some h →
      exec (.replyDeadlineExpiry k seq) s = .next (
        if h.seq = some seq then { less with haltSlots := s.haltSlots.set (some { h with stage := .waitingToSend }) m }
        else less))) ∧
  (∀ (s : State) (k : Fin 32) (seq : Word) (d : Nat), s.Kept → s.heldDown = false →
    ((∃ f, s.queue.find? (QueueFrame.inFlightAs k seq) = some f ∧ f.stage = .inFlight d) ∨
      (s.queue.find? (QueueFrame.inFlightAs k seq) = none ∧
        ∃ x, s.sideFlights.find? (fun y => y.module == k && y.seq == seq) = some x ∧ x.deadline = d)) →
    (s.module k).present = true → s.OneMoverEach → (s.module k).score ≤ 2 →
    ∃ t, exec (.replyDeadlineExpiry k seq) s = .next t ∧ t.now = max s.now d ∧
      t.module k =
        { s.module k with
          present := false, score := 0, firstPoll := false, returnDue := some (max s.now d + 1000) } ∧
      (∀ j, j ≠ k → t.module j = s.module j) ∧ (∀ x ∈ t.sideFlights, x.module ≠ k) ∧ t.AllHear 13 ∧
      (∀ m, s.params.modules.get m = k → t.haltSlots.get m = none) ∧
      (∀ g ∈ t.queue, g.module = k → g ∈ s.awaitingRoom) ∧
      (∀ p e, s.point? p = some e → (s.bindingInForce e).module = k →
        ∃ e', t.point? p = some e' ∧ e'.delivery = .lost ∧ e'.confirmed = none ∧ e'.writePending = false) ∧
      ((∃ p ∈ s.pointNumbers, ∃ e, s.writable? p = some e ∧ (s.bindingInForce e).module = k ∧ e.delivery ≠ .lost) →
        t.AllHear 11) ∧
      (∀ m, s.params.modules.get m = k →
        if isActive (s.mover m).state = true then
          (t.mover m).state = .faulted ∧ (t.mover m).lastFault = .linkLost ∧ (t.mover m).valid = false ∧
          (t.mover m).deferred = none
        else t.mover m = s.mover m) ∧
      (∀ x, s.declaration = some x → x.module = k → t.declaration = none ∧
        ∀ ref, x.order = some ref → s.Awaits ref → t.hasReply ref .ended .permitLink [])) ∧
  (∀ (s : State) (k : Fin 32) (seq : Word) (m : Mover), s.Kept → s.heldDown = false → (s.module k).present = true →
    s.OneMoverEach → s.params.modules.get m = k → isMotion (s.mover m).state = true →
    3 ≤ (s.module k).score → (s.module k).score ≤ 5 →
    let halted := fun (t : State) (lost : Bool) =>
      t.mover m =
        { s.mover m with
          state := .halting, haltCause := some .permitLink, linkLost := lost || (s.mover m).linkLost, poll := .idle
          travel := none, stall := none, settle := none, pause := none, homingTravel := none
          live := (s.mover m).live.filter fun l => !l.driving } ∧
      (t.haltSlots.get m).isSome = true ∧ t.claim m = s.claim m ∧
      (t.module k).score = (s.module k).score - 2 ∧ (t.module k).present = true
    (∀ f d, s.queue.find? (QueueFrame.inFlightAs k seq) = some f → f.stage = .inFlight d →
      ∃ t, exec (.replyDeadlineExpiry k seq) s = .next t ∧ t.now = max s.now d ∧
        let isPreset := match f.body with | .home _ (some _) => true | _ => false
        halted t (f.commands m && !f.retired && decide (2 ≤ f.attempt) && !isPreset)) ∧
    (∀ x, s.queue.find? (QueueFrame.inFlightAs k seq) = none →
      s.sideFlights.find? (fun y => y.module == k && y.seq == seq) = some x →
      ∃ t, exec (.replyDeadlineExpiry k seq) s = .next t ∧ t.now = max s.now x.deadline ∧ halted t false)) ∧
  (∀ (s : State) (k : Fin 32) (seq : Word) (f : QueueFrame) (d : Nat), s.Kept → s.heldDown = false →
    s.queue.find? (QueueFrame.inFlightAs k seq) = some f → f.stage = .inFlight d → (s.module k).present = true →
    s.OneMoverEach → 3 ≤ (s.module k).score → f.retired = true →
    (∀ m, s.params.modules.get m = k → isMotion (s.mover m).state = true → 6 ≤ (s.module k).score) →
    ∃ t, exec (.replyDeadlineExpiry k seq) s = .next t ∧ t.now = max s.now d ∧
      (∀ g ∈ t.queue, g.inFlightAs k seq = false) ∧ (t.module k).score = (s.module k).score - 2 ∧
      (t.module k).present = true ∧ t.movers = s.movers ∧ t.haltSlots = s.haltSlots ∧ t.declaration = s.declaration ∧
      ∀ n, (t.station n).status = (s.station n).status) ∧
  (∀ (s : State) (k : Fin 32) (seq : Word) (f : QueueFrame) (d : Nat), s.Kept → s.heldDown = false →
    s.queue.find? (QueueFrame.inFlightAs k seq) = some f → f.stage = .inFlight d → (s.module k).present = false →
    (s.module k).score = 0 → f.retired = false →
    (f.isPoll = true ∨ (f.body.kind = .terminalWrite ∧ f.attempt = 2) →
      ∃ t, exec (.replyDeadlineExpiry k seq) s = .next t ∧ t.now = max s.now d ∧
        (∀ g ∈ t.queue, g.inFlightAs k seq = false) ∧ t.modules = s.modules ∧ t.movers = s.movers ∧
        t.claims = s.claims ∧ t.haltSlots = s.haltSlots ∧ t.sideFlights = s.sideFlights ∧
        t.declaration = s.declaration ∧ (∀ n, (t.station n).status = (s.station n).status) ∧
        (∀ latch isReturn, f.body = .poll latch isReturn → t.latchCheck = (s.latchCheck && !latch)) ∧
        (f.marks = [] → ∀ y ∈ t.fences, ∃ z ∈ s.fences, z.order = y.order ∧ z.losses = y.losses) ∧
        (∀ terminal level order, f.body = .terminalWrite terminal level order → s.Awaits order →
          t.hasReply order .ended .permitLink [])) ∧
    (f.isPoll = false → f.attempt < 2 →
      exec (.replyDeadlineExpiry k seq) s = .next
        { s with
          now := max s.now d
          queue := s.queue.map fun g => if g.inFlightAs k seq then { g with stage := .awaitingResend } else g }))

/-- R123, R135, R136, R137: the routine poll, the return poll, the motion poll and the end of a merge window. That the
routine polls R141 makes due at the bring-up enter by this row, each with the clock unmoved (log entry 14), and that
every other row here finds the clock at its deadline (log entry 2), is the model's; every other routine poll finds the
clock 100 ms past the last timely reply, or past the restart. -/
def Obligations.PollsAndMergeWindows : Prop :=
  ∀ (s : State) (k : Fin 32), s.Kept → s.heldDown = false →
    let poll : Bool → QueueFrame := fun isReturn =>
      { module := k, body := .poll false isReturn, isOpen := false, mergeAt := 0, stage := .unsent, attempt := 0,
        marks := [], seq := none, retired := false }
    let handed := fun (s : State) (f : QueueFrame) =>
      if s.queue.length < 18 then { s with queue := s.queue ++ [f] }
      else { s with awaitingRoom := s.awaitingRoom ++ [f] }
    let noPoll := ∀ f ∈ s.queue ++ s.awaitingRoom, ¬(f.module = k ∧ f.isPoll = true)
    (s.inUse k = true → (s.module k).present = true →
      (∀ m, s.params.modules.get m = k → isMotion (s.mover m).state = false) → noPoll →
      exec (.routinePollDue k) s = .next (handed
        { s with
          now := if (s.module k).firstPoll then s.now else max s.now ((s.module k).lastTimely + 100)
          modules := s.modules.set k { s.module k with firstPoll := false } }
        (poll false))) ∧
    (∀ d, s.inUse k = true → (s.module k).present = false → (s.module k).returnDue = some d → noPoll →
      exec (.returnPollDue k) s = .next (handed
        { s with now := max s.now d, modules := s.modules.set k { s.module k with returnDue := none } } (poll true))) ∧
    (∀ m d, (s.mover m).poll = .waiting d → isMotion (s.mover m).state = true →
      exec (.motionPollDue m) s = .next
        { s.setMover m { s.mover m with poll := .due } with now := max s.now d }) ∧
    (∀ f, s.queue.find? (fun f => f.module == k && f.isOpen) = some f →
      exec (.mergeWindowExpiry k) s = .next
        { s with
          now := max s.now f.mergeAt
          queue := s.queue.map fun g => if g.module = k ∧ g.isOpen = true then { g with isOpen := false } else g })

/-! ### The Configuration Store -/

/-- R178, R179: a part of a section is staged, and a commit puts it in force, in SETUP with MAINT and the lock clear: of
the zone, scene, profile or resume section as it stands; of the point section by R22, an unchanged entry kept and a
changed one set anew, the items of a changed entry frozen where they stand, at the level they carried or else the old
effective level (R125); of the force section with the effective levels computed again (R20); of the mover section with
each machine whose module changes UNHOMED, its switches not seen and its Halt Slot empty (R48, R104); of the
substitution section with every point moved whose binding in force changes (R153). The first record that fails its
section's checks refuses the commit with its reason and index, the copy discarded and the tables as they stand; the
fault record names that record's binding (R175). What refuses a part or a commit, in the order of the checks of R178, and
a commit without its copy or its exact count (R179). The failures spelled out: a point record whose binding is a spare
(R153), a mover record that changes an active machine's module (R48), and substitution records by checks 4 to 7 of R146.
That the table keeps no entries past those the section carries (log entry 37), that an earlier entry of the same
failed binding counts for ALREADY_MAPPED whether ACTIVE or VOID (log entry 24), and that a refused commit takes another
section's copy of the orderer with it (log entry 23), are the model's. -/
def Obligations.LoadsAreStagedAndCommitted : Prop :=
  (∀ (s : State) (o : OrderFrame) (sec : Section), s.Kept → s.Takes o → sectionOf o.target = some sec →
    s.cond.mode = .setup → (s.profile o.station).maint = true → s.locked = false →
    let mine := fun recs : List (List Word) => (⟨o.station, sec.code, recs⟩ : Staging)
    (∀ rest recs, o.words = 0 :: rest → recordsOf sec rest = some recs → recs.length ≤ sec.largest →
      (∀ c, s.staging = some c → c.station = o.station) →
      exec (.loadConfig o) s = .next
        (({ s with staging := some (mine recs) } : State).answered codeLoadConfig o .done .noReason
          [wordOfNat recs.length])) ∧
    (∀ index rest recs base, o.words = index :: rest → recordsOf sec rest = some recs →
      s.staging = some (mine base) → index.toNat = base.length → index ≠ 0 → index ≠ -1 →
      base.length + recs.length ≤ sec.largest →
      exec (.loadConfig o) s = .next
        (({ s with staging := some (mine (base ++ recs)) } : State).answered codeLoadConfig o .done .noReason
          [wordOfNat (base.length + recs.length)])) ∧
    (∀ recs, o.words = [-1] → s.staging = some (mine recs) → (sec.isExact = true → recs.length = sec.largest) →
      let put := fun (t : State) (n : Nat) =>
        ({ t with staging := none } : State).answered codeLoadConfig o .done .noReason [wordOfNat n]
      (∀ l, sec = .zone → judgeRecords readZoneRecord 0 [] recs = .passed l →
        exec (.loadConfig o) s = .next (put { s with zones := l } l.length)) ∧
      (∀ l, sec = .scene → judgeRecords (readSceneRecord s) 0 [] recs = .passed l →
        exec (.loadConfig o) s = .next (put { s with scenes := gatherScenes l } l.length)) ∧
      (∀ l, sec = .profile → judgeRecords readProfileRecord 0 [] recs = .passed l →
        exec (.loadConfig o) s = .next
          (put { s with profiles := l.foldl (fun t x => t.set x.2 x.1) s.profiles, blank := false } l.length)) ∧
      (∀ p, sec = .resume → recs = [[p]] → (p = 0 ∨ p = 1) →
        exec (.loadConfig o) s = .next (put { s with resume := if p = 0 then .restore else .dark } 1)) ∧
      (∀ k why about,
        (sec = .point ∧ judgeRecords (readPointRecord s.substs) 0 [] recs = .failed k why about) ∨
        (sec = .zone ∧ judgeRecords readZoneRecord 0 [] recs = .failed k why about) ∨
        (sec = .scene ∧ judgeRecords (readSceneRecord s) 0 [] recs = .failed k why about) ∨
        (sec = .force ∧ judgeRecords (readForceRecord s) 0 [] recs = .failed k why about) ∨
        (sec = .profile ∧ judgeRecords readProfileRecord 0 [] recs = .failed k why about) ∨
        (sec = .mover ∧ judgeRecords (readMoverRecord s) 0 [] recs = .failed k why about) ∨
        (sec = .substitution ∧ judgeRecords (readSubstRecord s) 0 [] recs = .failed k why about) ∨
        (sec = .resume ∧ judgeRecords readResumeRecord 0 [] recs = .failed k why about) →
        exec (.loadConfig o) s = .next (s.loadRefused o why k about)) ∧
      (∀ done kind zone code rest l binding, sec = .point → recs = done ++ [kind, zone, code] :: rest →
        judgeRecords (readPointRecord s.substs) 0 [] done = .passed l → 1 ≤ kind.toNat → kind.toNat ≤ 5 →
        zone.toNat < 48 → bindingOf code = some binding → (∃ e ∈ s.substs, e.spare = binding) →
        exec (.loadConfig o) s = .next (s.loadRefused o .spareInUse done.length (some ⟨.binding, code.toNat⟩))) ∧
      (∀ a b c deck chain m, sec = .mover → recs = [[a, b, c, deck, chain]] →
        a.toNat < 32 → b.toNat < 32 → c.toNat < 32 → a ≠ b → a ≠ c → b ≠ c →
        200 ≤ deck.toInt → deck.toInt ≤ 800 → 100 ≤ chain.toInt → chain.toInt ≤ 4000 →
        isActive (s.mover m).state = true →
        (s.params.modules.get m).val ≠ (match m with | .hatch => a | .platform => b | .windlass => c).toNat →
        exec (.loadConfig o) s = .next (s.loadRefused o .busy 0 none)) ∧
      (∀ done a b mark rest l failed spare, sec = .substitution → recs = done ++ [a, b, mark] :: rest →
        judgeRecords (readSubstRecord s) 0 [] done = .passed l → bindingOf a = some failed →
        bindingOf b = some spare → mark = 0 ∨ mark = 1 →
        let refused := fun why : Reason =>
          exec (.loadConfig o) s = .next (s.loadRefused o why done.length (some ⟨.binding, a.toNat⟩))
        let mapped := ∃ e ∈ l, e.failed = failed ∨ e.spare = failed
        let taken := ∃ e ∈ l, e.failed = spare ∨ e.spare = spare
        let used := ∃ p ∈ s.pointNumbers, (s.point? p).map (fun x => x.binding) = some spare
        (spare = failed → refused .selfSpare) ∧
        (spare ≠ failed → mapped → refused .alreadyMapped) ∧
        (spare ≠ failed → ¬mapped → taken → refused .spareTaken) ∧
        (spare ≠ failed → ¬mapped → ¬taken → used → refused .spareInUse)) ∧
      (∀ l, sec = .point → judgeRecords (readPointRecord s.substs) 0 [] recs = .passed l →
        ∃ t, exec (.loadConfig o) s = .next t ∧ t.staging = none ∧ t.points.length = l.length ∧
          t.hasReply (s.nextRef o) .done .noReason [wordOfNat l.length] ∧
          t.zones = s.zones ∧ t.scenes = s.scenes ∧ t.forces = s.forces ∧ t.movers = s.movers ∧
          (∀ (p : Nat) (e : PointEntry), s.points[p]? = some e →
            (∀ x, l[p]? = some x → ¬(e.kind = x.kind ∧ e.zone = x.zone ∧ e.binding = x.binding)) →
            (∀ (j : Nat) (f : QueueFrame), s.queue[j]? = some f →
              ∃ g, t.queue[j]? = some g ∧ g.module = f.module ∧ g.stage = f.stage ∧
                ∀ i ∈ f.items, i.point = p → i.tie = .live →
                  { i with tie := .frozen, level := some (i.level.getD e.effective) } ∈ g.items) ∧
            ∀ g ∈ t.queue, ∀ i ∈ g.items, i.point = p → i.tie = .live →
              i.level = none ∧ i.fade = 0 ∧ ∃ x, l[p]? = some x ∧ i.binding = inForce s.substs x.binding) ∧
          ∀ p x, l[p]? = some x →
            ∃ e', t.points[p]? = some e' ∧ e'.kind = x.kind ∧ e'.zone = x.zone ∧ e'.binding = x.binding ∧
              (∀ e, s.points[p]? = some e → e.kind = x.kind → e.zone = x.zone → e.binding = x.binding →
                e'.requested = e.requested ∧ e'.effective = e.effective ∧ e'.confirmed = e.confirmed ∧
                e'.delivery = e.delivery ∧ e'.lastWriter = e.lastWriter ∧ e'.lastFade = e.lastFade ∧
                (e'.writePending = true → e.writePending = true)) ∧
              ((∀ e, s.points[p]? = some e → ¬(e.kind = x.kind ∧ e.zone = x.zone ∧ e.binding = x.binding)) →
                let dark : Int := if x.kind = .climate then 150 else 0
                let present := (s.module (inForce s.substs x.binding).module).present = true
                let writable := x.kind ≠ .unconfigured ∧ x.kind ≠ .sense
                e'.requested = dark ∧ e'.lastWriter = .restart ∧ e'.lastFade = 0 ∧ e'.confirmed = none ∧
                (writable → e'.effective = largestOr dark (t.activeForces p)) ∧
                (x.kind ≠ .unconfigured →
                  e'.delivery = if ¬present then .lost else if x.kind = .sense then .settled else .queued) ∧
                (¬(writable ∧ present) → e'.writePending = false))) ∧
      (∀ l, sec = .force → judgeRecords (readForceRecord s) 0 [] recs = .passed l →
        ∃ t, exec (.loadConfig o) s = .next t ∧ t.staging = none ∧ t.forces = l ∧ t.movers = s.movers ∧
          t.hasReply (s.nextRef o) .done .noReason [wordOfNat l.length] ∧
          ∀ p e, s.point? p = some e →
            ∃ e', t.point? p = some e' ∧ e'.requested = e.requested ∧ e'.confirmed = e.confirmed ∧
              let named := ∃ f ∈ s.forces ++ l, f.point = p
              let level := if named ∧ e.kind ≠ .sense then largestOr e.requested (t.activeForces p) else e.effective
              e'.effective = level ∧
              (level = e.effective → e'.lastWriter = e.lastWriter ∧ e'.lastFade = e.lastFade ∧
                e'.delivery = e.delivery) ∧
              (level ≠ e.effective → e'.lastWriter = .force ∧ e'.lastFade = 0)) ∧
      (∀ x, sec = .mover → judgeRecords (readMoverRecord s) 0 [] recs = .passed [x] →
        ∃ t, exec (.loadConfig o) s = .next t ∧ t.staging = none ∧ t.params = x ∧
          t.hasReply (s.nextRef o) .done .noReason [1] ∧
          ∀ m,
            (s.params.modules.get m ≠ x.modules.get m →
              t.mover m = { s.mover m with state := .unhomed, valid := false, attempts := 0, poll := .idle } ∧
              t.haltSlots.get m = none ∧ t.cond.seen.get m = false ∧ t.homeSwitch m = false) ∧
            (s.params.modules.get m = x.modules.get m → isActive (s.mover m).state = false →
              t.mover m = s.mover m ∧ t.haltSlots.get m = s.haltSlots.get m ∧
              t.cond.seen.get m = s.cond.seen.get m ∧ t.homeSwitch m = s.homeSwitch m)) ∧
      (∀ l, sec = .substitution → judgeRecords (readSubstRecord s) 0 [] recs = .passed l →
        ∃ t, exec (.loadConfig o) s = .next t ∧ t.staging = none ∧ t.substs = l ∧ t.movers = s.movers ∧
          t.hasReply (s.nextRef o) .done .noReason [wordOfNat l.length] ∧
          ∀ p e, s.point? p = some e →
            ∃ e', t.point? p = some e' ∧ e'.requested = e.requested ∧ e'.effective = e.effective ∧
              let b := inForce l e.binding
              (inForce s.substs e.binding = b → e'.confirmed = e.confirmed ∧ e'.delivery = e.delivery) ∧
              (inForce s.substs e.binding ≠ b →
                e'.confirmed = none ∧
                e'.delivery =
                  if (s.module b.module).present = false then .lost
                  else if e.kind = .sense then .settled
                  else if (s.module b.module).failed.getLsbD b.terminal.val = true then .faulted
                  else .queued)))) ∧
  (∀ (s : State) (o : OrderFrame), s.Kept → s.Takes o →
    let refusedOf := fun (t : State) (why : Reason) (data : List Word) =>
      exec (.loadConfig o) s = .next (t.answered codeLoadConfig o .refused why data)
    let refused := fun why : Reason => refusedOf s why []
    (o.target.toNat = 0 ∨ 8 < o.target.toNat → refused .badTarget) ∧
    ∀ sec : Section, o.target.toNat = sec.code →
      (o.words = [] → refused .badOperand) ∧
      ∀ index rest, o.words = index :: rest →
        (rest.length % sec.width ≠ 0 ∨ (index = -1 ∧ rest ≠ []) → refused .badOperand) ∧
        (rest.length % sec.width = 0 → (index = -1 → rest = []) →
          let maint := (s.profile o.station).maint
          let count := rest.length / sec.width
          let copy := fun base => s.staging = some (⟨o.station, sec.code, base⟩ : Staging)
          (s.cond.mode ≠ .setup → refused .modeInvalid) ∧
          (s.cond.mode = .setup → maint = false → refused .noAuthority) ∧
          (s.cond.mode = .setup → maint = true → s.locked = true → refused .configLocked) ∧
          (s.cond.mode = .setup → maint = true → s.locked = false →
            (∀ c, s.staging = some c → c.station ≠ o.station → refused .busy) ∧
            ((∀ c, s.staging = some c → c.station = o.station) →
              (index = 0 → sec.largest < count → refused .badOperand) ∧
              (index ≠ 0 → index ≠ -1 →
                ((∀ base, ¬copy base) → refused .badOperand) ∧
                (∀ base, copy base → index.toNat ≠ base.length ∨ sec.largest < base.length + count →
                  refused .badOperand)) ∧
              (index = -1 →
                (∀ base, ¬copy base) ∨
                    (sec.isExact = true ∧ ∃ base, copy base ∧ base.length ≠ sec.largest) →
                  refusedOf { s with staging := none } .badOperand [-1])))))

/-- R180: LOCK_CONFIG sets the lock and discards any staging copy; while it is set a load is refused CONFIG_LOCKED
after its authority check. -/
def Obligations.LockClosesTheStore : Prop :=
  (∀ (s : State) (o : OrderFrame), s.Kept → s.Takes o →
    exec (.lockConfig o) s = .next (
      if o.target ≠ 0 then s.answered codeLockConfig o .refused .badTarget []
      else if o.words ≠ [] then s.answered codeLockConfig o .refused .badOperand []
      else if (s.profile o.station).maint = false then s.answered codeLockConfig o .refused .noAuthority []
      else ({ s with locked := true, staging := none } : State).answered codeLockConfig o .done .noReason [])) ∧
  (∀ (s : State) (o : OrderFrame) (sec : Section) (index : Word) (rest : List Word) (recs : List (List Word)),
    s.Kept → s.Takes o → sectionOf o.target = some sec → o.words = index :: rest → recordsOf sec rest = some recs →
    (index = -1 → recs = []) → s.cond.mode = .setup → s.locked = true →
    exec (.loadConfig o) s = .next (
      if (s.profile o.station).maint then s.answered codeLoadConfig o .refused .configLocked []
      else s.answered codeLoadConfig o .refused .noAuthority []))

/-! ### Attach, detach and the supplies -/

/-- R155, R157, R186: an attach changes the attached item alone, but for the notice of a warm restart, with the fault record
of the first restart fault, in the order of the movers, whose holder item names the station, or none, or LOCAL. A detach sets
the Station Record to its detached values, and every block forgets the station: its deferred replies and the order of its
declaration, which goes on without it (R46, R56); its windows and held orders, the marks of its windows leaving the others'
entries (R116); its fences with their marks (R141); its staging copy; its waits. A claim it holds is let go at rest; of a
moving mover it is DETACHED with a halt that gives no reason, in RECOVERING likewise until the halt frame is confirmed, and
then it passes at once; an ending under way becomes DETACHED (R79). That STATION_ATTACH of an attached port changes nothing,
and that its claims are let go before its windows close, is the model's (log entries 32 and 45). -/
def Obligations.AttachAndDetach : Prop :=
  (∀ (s : State) (n : Station), s.Kept → s.heldDown = false →
    exec (.stationAttach n) s = .next (
      let r := s.station n
      let about := fun m : Mover => (s.restartFaults.get m).bind fun f =>
        if f.holder = .station n ∨ f.holder = .nobody ∨ f.holder = .deck then
          some (⟨.supply, BitVec.ofNat 8 f.code.code, .mover, moverNumber m, f.valid, f.position⟩ : FaultRecord)
        else none
      let first := ((about .hatch).or (about .platform)).or (about .windlass)
      if r.attached then s
      else if s.keep.notices.get n = false then setLines (s.setStation n { r with attached := true })
      else
        setLines
          { s.setStation n
              { r with attached := true, status := r.status ||| 1#23 <<< 21, fault := first.getD r.fault } with
            keep := { s.keep with notices := s.keep.notices.set false n } })) ∧
  (∀ (s : State) (n : Station), s.heldDown = false → (s.station n).attached = true →
    ∃ t, exec (.stationDetach n) s = .next t ∧
      t.station n =
        { attached := false, intake := [], replies := [], receiver := .hunting, status := 0,
          enable := BitVec.allOnes 23, reports := [], fault := ⟨.noFault, 0, .nothing, 0, false, 0⟩, atn := false,
          tx := [] } ∧
      (∀ h ∈ t.held, h.order.station ≠ n) ∧ (∀ i, windowOwner i = n → t.windows[i].isOpen = false) ∧
      (∀ f ∈ t.fences, f.order.station ≠ n) ∧ (∀ c, t.staging = some c → c.station ≠ n) ∧
      (∀ m, ∀ r ∈ (t.claim m).waiters, r.station ≠ n) ∧ (∀ m r, (t.mover m).deferred = some r → r.station ≠ n) ∧
      (∀ m, (s.claim m).holder = .station n → (s.claim m).ending = .notEnding →
        (isActive (s.mover m).state = false → (t.claim m).holder ≠ .station n) ∧
        (isMotion (s.mover m).state = true →
          (t.claim m).holder = .station n ∧ (t.claim m).ending = .detached ∧ (t.mover m).state = .halting))) ∧
  (∀ (s : State) (n : Station), s.Kept → s.heldDown = false → (s.station n).attached = true →
    let forgets := fun x : Option OrderRef => if ∃ r ∈ x, r.station = n then none else x
    let marks := markOf (windowIndex n false) ||| markOf (windowIndex n true)
    ∃ t, exec (.stationDetach n) s = .next t ∧
      ((s.claim .windlass).holder ≠ .station n ∨ (∀ c ∈ controlsOf .windlass, s.control c ≠ .passed) →
        t.declaration = s.declaration.map fun d => { d with order := forgets d.order }) ∧
      (∀ y ∈ s.fences, y.order.station = n →
        (∀ z ∈ s.fences, z.order.serial = y.order.serial → z.order.station = n) →
        ∀ f ∈ t.queue, y.order.serial ∉ f.marks) ∧
      (s.HeldLaw →
        t.held =
          ((s.held.filter fun h => h.order.station != n).map fun h => { h with marks := h.marks &&& ~~~marks }).filter
            fun h => h.marks != 0) ∧
      t.staging = (if ∃ c ∈ s.staging, c.station = n then none else s.staging) ∧
      (∀ m,
        let r := { s.mover m with deferred := forgets (s.mover m).deferred }
        let c := { s.claim m with waiters := (s.claim m).waiters.filter fun w => w.station != n }
        let detached := { c with ending := .detached, deadline := none }
        (c.holder ≠ .station n → t.mover m = r ∧ t.claim m = c) ∧
        (c.holder = .station n → c.ending = .releasing ∨ c.ending = .expiring →
          t.mover m = r ∧ t.claim m = { c with ending := .detached, releaseOrder := none }) ∧
        (c.holder = .station n → c.ending = .notEnding →
          (isMotion r.state = true →
            t.mover m = r.halting .noReason ∧ (t.haltSlots.get m).isSome = true ∧ t.claim m = detached) ∧
          (r.state = .recovering → r.stopConfirmed = false → t.mover m = r.halting .noReason ∧ t.claim m = detached) ∧
          (r.state = .halting → t.mover m = r ∧ t.claim m = detached) ∧
          (r.state = .recovering → r.stopConfirmed = true → (∀ x ∈ controlsOf m, s.control x ≠ .passed) →
            t.mover m = r.stopped ∧ s.Passed t m s.now c.waiters) ∧
          (isActive r.state = false →
            ((∀ x ∈ controlsOf m, s.control x ≠ .passed) → t.mover m = r) ∧ s.Passed t m s.now c.waiters))))

/-- R181, R182, R183: main loss and an assertion of RESET write the Keep Records, unless the keep-alive supply is not
good, and hold the part down, every attention line deasserted; the keep-alive events empty the records. What comes of
a second cause and of a keep-alive loss is the model's reading (log entries 42 and 17). -/
def Obligations.SupplyEventsHoldThePartDown : Prop :=
  ∀ (s : State), s.Kept →
    let kept := fun m : Mover => ({
      active := isActive (s.mover m).state, position := (s.mover m).position, valid := (s.mover m).valid
      faulted := if (s.mover m).state = .faulted then some (s.mover m).lastFault else none
      holder := (s.claim m).holder } : KeepMover)
    let written : KeepRecords :=
      if s.keepAliveGood then
        { valid := true, movers := ⟨kept .hatch, kept .platform, kept .windlass⟩, mode := s.cond.mode,
          swimmer := s.cond.swimmer, latch := s.cond.latch, notices := s.keep.notices }
      else s.keep
    let emptied := KeepRecords.cold false
    exec .mainLoss s = .next
      (if s.mainLost then s else setLines { s with heldDown := true, mainLost := true, keep := written }) ∧
    exec .resetAssert s = .next
      (if s.heldDown then { s with resetAsserted := true }
        else setLines { s with heldDown := true, resetAsserted := true, keep := written }) ∧
    exec .keepAliveLoss s = .next { s with keepAliveGood := false, keep := emptied } ∧
    exec .keepAliveUp s = .next { s with keepAliveGood := true, keep := emptied } ∧
    emptied.valid = false ∧ ∀ n, emptied.notices.get n = false

/-- R183: the part restarts when main supply is good or the RESET line released and the other cause does not stand.
What every block then has, cold or warm: the Concurrence Unit (R117), the ports (R157), the claims (R81), the movers (R46,
R47) and their restart faults (R185), the declaration, the creep items and the controls (R62), the conditions (R103), the
Point Table (R21), the field link (R141), the store (R180) and the Keep Records (R181). That the whole bring-up is one
step, and that the contacts as first seen are operands, is the model's (log entries 18, 4 and 30); so are a queue with
LEVELS frames alone and the first polls due by a mark (log entry 14), the bar on the foot switches lifted (log entry 40),
and nothing sent yet on a port (log entry 5). -/
def Obligations.RestartSetsEveryBlock : Prop :=
  ∀ (s : State) (seen : Contacts) (c : Instr), s.Kept → s.heldDown = true →
    ((c = .mainGood seen ∧ s.resetAsserted = false) ∨ (c = .resetRelease seen ∧ s.mainLost = false)) →
    ∃ t, exec c s = .next t ∧ t.heldDown = false ∧ t.mainLost = false ∧ t.resetAsserted = false ∧
      (∀ i : Fin 6, t.windows[i] = ⟨false, 0, 0, false⟩) ∧ t.held = [] ∧ t.nextHold = 0 ∧
      (∀ n, t.station n =
        { attached := false, intake := [], replies := [], receiver := .hunting, status := 0,
          enable := BitVec.allOnes 23, reports := [], fault := ⟨.noFault, 0, .nothing, 0, false, 0⟩, atn := false,
          tx := [] }) ∧
      (∀ m, t.claim m =
        { holder := .nobody, lease := none, deadline := none, ending := .notEnding, override := none,
          localHold := none, passPending := false, releaseOrder := none, waiters := [] }) ∧
      (∀ m,
        let k := s.keep.movers.get m
        let warm := s.keep.valid
        t.mover m =
          { state :=
              if warm = false ∨ k.active = true then .unhomed
              else if k.faulted.isSome = true then .faulted
              else if k.valid = true then .idle else .unhomed
            position := if warm then k.position else 0
            valid := warm && !k.active && k.valid
            lastFault :=
              if warm = false then .noFault else if k.active then .powerLostInMotion else k.faulted.getD .noFault
            target := none, attempts := 0, recovery := false, attended := false, noRetry := false, command := none
            haltCause := none, linkLost := false, deferred := none, travel := none, stall := none, settle := none
            pause := none, homingTravel := none, seen := [], poll := .idle, live := none } ∧
        t.restartFaults.get m =
          if warm = false then none
          else if k.active then some ⟨.powerLostInMotion, k.position, false, k.holder⟩
          else k.faulted.map fun code => ⟨code, k.position, k.valid, k.holder⟩) ∧
      t.declaration = none ∧ t.creepReference = t.movers.windlass.position ∧ t.creepFlag = false ∧
      t.latchCheck = false ∧ t.footBlocked = false ∧
      (∀ c : Control,
        t.control c =
          if (match c with
              | .hatchButton => seen.hatchHeld | .platformUp => seen.upHeld | .platformDown => seen.downHeld
              | .windlassHeave => seen.heaveHeld | .windlassPayOut => seen.payOutHeld) = true
          then .heldSinceRestart else .released) ∧
      t.cond.bowOpen = seen.bowOpen ∧ t.cond.sternOpen = seen.sternOpen ∧ t.cond.garageOpen = seen.garageOpen ∧
      t.cond.matOccupied = seen.matMade ∧ (∀ m, t.cond.seen.get m = false ∧ t.homeSwitch m = false) ∧
      t.points.length = s.points.length ∧
      (∀ p e, s.point? p = some e →
        ∃ e', t.point? p = some e' ∧ e'.kind = e.kind ∧ e'.zone = e.zone ∧ e'.binding = e.binding ∧
          e'.lastWriter = .restart ∧ e'.lastFade = 0 ∧ e'.confirmed = none ∧
          (e.kind = .sense → e'.delivery = .settled) ∧
          (e.kind ≠ .sense → e.zone < 48 →
            let z := s.zone e.zone
            let lit := s.resume = .restore ∧
              (z.exterior = false ∨ t.cond.mode = .berthed ∨ t.cond.mode = .setup)
            let named := ((z.powerUp.bind fun n => s.scene? e.zone n).map fun rec =>
              rec.items.filter fun i => i.point == p && levelValid e.kind i.level).getD []
            let dark : Int := if e.kind = .climate then 150 else 0
            e'.requested = (if lit then (named.getLast?.map fun i => i.level).getD dark else dark) ∧
            e'.effective = largestOr e'.requested (t.activeForces p) ∧ e'.delivery = .queued ∧
            (e'.writePending = true ∨ ∃ g ∈ t.queue, holdsLive p g = true))) ∧
      (∀ g ∈ t.queue, g.stage = .unsent ∧ ∃ items, g.body = .levels items) ∧ t.awaitingRoom = [] ∧
      (∀ m, isActive (t.mover m).state = false) ∧
      t.cond.mode =
        (if s.blank then .setup else if s.keep.valid then s.keep.mode else .berthed) ∧
      t.cond.latch =
        ((if s.keep.valid then s.keep.latch else true) || seen.bowOpen || seen.sternOpen || seen.garageOpen) ∧
      t.cond.swimmer = ((if s.keep.valid then s.keep.swimmer else false) || seen.matMade) ∧
      (∀ k : Fin 32, t.module k =
        { present := true, score := 8, failed := 0, snapshot := none, heldCommand := none, lastTimely := s.now,
          firstPoll := s.inUse k, returnDue := none }) ∧
      t.fences = [] ∧ t.sideFlights = [] ∧ (∀ m, t.haltSlots.get m = none) ∧ t.wireSeq = 0 ∧
      t.locked = false ∧ t.staging = none ∧ t.keep.valid = false ∧
      (∀ n, t.keep.notices.get n = s.keep.valid) ∧
      t.zones = s.zones ∧ t.scenes = s.scenes ∧ t.forces = s.forces ∧ t.profiles = s.profiles ∧
      t.params = s.params ∧ t.substs = s.substs ∧ t.resume = s.resume ∧ t.blank = s.blank

/-- What reset leaves: a cold restart of a part whose store is blank, the contacts seen closed, clear and open (the
model's choice, log entry 4). -/
def Obligations.ResetIsAColdRestart : Prop :=
  let s := State.reset
  s.cond.mode = .setup ∧ s.cond.latch = true ∧ s.cond.swimmer = false ∧ s.blank = true ∧ s.locked = false ∧
  s.staging = none ∧ s.points = [] ∧ s.scenes = [] ∧ s.forces = [] ∧ s.substs = [] ∧ s.resume = .dark ∧
  s.params = ⟨⟨29, 30, 31⟩, 400, 1200⟩ ∧
  s.profiles.one = ⟨true, true, true, true, ⟨true, true, true⟩⟩ ∧
  s.profiles.two = ⟨false, false, false, false, ⟨false, false, false⟩⟩ ∧
  s.profiles.three = ⟨false, false, false, false, ⟨false, false, false⟩⟩ ∧
  (∀ m, (s.mover m).state = .unhomed ∧ (s.mover m).position = 0 ∧ (s.mover m).valid = false ∧
    (s.mover m).target = none ∧ (s.mover m).attempts = 0 ∧ (s.mover m).command = none ∧
    (s.mover m).lastFault = .noFault ∧ (s.mover m).deferred = none ∧ (s.claim m).holder = .nobody ∧
    (s.claim m).waiters = [] ∧ s.haltSlots.get m = none) ∧
  (∀ n, (s.station n).attached = false ∧ (s.station n).intake = [] ∧ (s.station n).status = 0 ∧
    (s.station n).enable = BitVec.allOnes 23 ∧ (s.station n).fault.cls = .noFault ∧ (s.station n).atn = false) ∧
  (∀ i : Fin 6, s.windows[i] = ⟨false, 0, 0, false⟩) ∧ s.held = [] ∧ s.nextHold = 0 ∧
  (∀ k : Fin 32, (s.module k).present = true ∧ (s.module k).score = 8 ∧ (s.module k).failed = 0 ∧
    (s.module k).snapshot = none ∧ (s.module k).heldCommand = none) ∧
  s.queue = [] ∧ s.fences = [] ∧ s.wireSeq = 0 ∧ s.keep.valid = false ∧ s.pending = []

/-! ### What every step keeps -/

/-- Every step leaves no freed record unused, no complete fence unanswered, every line as R158 asks, every number of an
intake entry, a fence and a fence mark below the next one, in the queue and among the frames held for want of admission
(the model's bookkeeping, log entries 8 and 31), and these frames as they were handed (R121, R123). -/
def Obligations.StepKeepsItsEnd : Prop := KeptByStep State.Kept

/-- The law of the intake. -/
def Obligations.StepKeepsTheLawOfTheIntake : Prop := KeptByStep State.IntakeLaw

/-- The law of forced levels. -/
def Obligations.StepKeepsTheLawOfForcedLevels : Prop := KeptByStep State.ForceLaw

/-- The law of claims. -/
def Obligations.StepKeepsTheLawOfClaims : Prop := KeptByStep State.ClaimLaw

/-- The law of the wait lists. -/
def Obligations.StepKeepsTheLawOfTheWaitLists : Prop := KeptByStep State.WaitLaw

/-- The law of the emergency stop. -/
def Obligations.StepKeepsTheLawOfTheEmergencyStop : Prop := KeptByStep State.StopLaw

/-- The law of the hatch and platform, and their part of the law of the vessel modes. -/
def Obligations.StepKeepsTheLawOfTheHatchAndPlatform : Prop := KeptByStep State.PartnerLaw

/-- The law of held orders. -/
def Obligations.StepKeepsTheLawOfHeldOrders : Prop := KeptByStep State.HeldLaw

/-- The law of the unconfirmed count, with what it rests on: a frame held for want of admission is unsent, and enters the
queue so. That frame's law alone, each such frame a TERMINAL_WRITE or a POLL, closed, unsent, without a mark and without a
wire sequence number (R121, R123). The law of open frames. -/
def Obligations.StepKeepsTheLawOfTheUnconfirmedCount : Prop :=
  (KeptByStep fun s => s.UnconfirmedLaw ∧ s.RoomLaw) ∧ KeptByStep State.RoomLaw ∧ KeptByStep State.OpenLaw

/-- The law of spares. -/
def Obligations.StepKeepsTheLawOfSpares : Prop := KeptByStep State.SpareLaw

/-- Reset obeys every law. -/
def Obligations.ResetObeysTheLaws : Prop :=
  State.reset.Kept ∧ State.reset.IntakeLaw ∧ State.reset.ForceLaw ∧ State.reset.ClaimLaw ∧ State.reset.WaitLaw ∧
  State.reset.StopLaw ∧ State.reset.PartnerLaw ∧ State.reset.HeldLaw ∧ State.reset.UnconfirmedLaw ∧
  State.reset.SpareLaw ∧ State.reset.OpenLaw ∧ State.reset.RoomLaw
end

