-- ==== Sys2Proof/Laws/State.lean ====
section
/-! SUPPORT. One lemma per field per update of the state, each true by computation, so that no later proof unfolds a
record update; and the reading back of a family of like things after it was written. -/

namespace Sys2Proof.Machine

/-! ### Families -/

@[simp] theorem PerStation.get_set_self {α : Type} (p : PerStation α) (x : α) (n : Station) :
    (p.set x n).get n = x := by cases n <;> rfl

theorem PerStation.get_set_of_ne {α : Type} (p : PerStation α) (x : α) {n k : Station} (h : k ≠ n) :
    (p.set x n).get k = p.get k := by cases n <;> cases k <;> first | rfl | exact absurd rfl h

@[simp] theorem PerStation.set_set {α : Type} (p : PerStation α) (x y : α) (n : Station) :
    (p.set x n).set y n = p.set y n := by cases n <;> rfl

@[simp] theorem PerStation.set_get {α : Type} (p : PerStation α) (n : Station) : p.set (p.get n) n = p := by
  cases n <;> rfl

@[simp] theorem PerMover.get_set_self {α : Type} (p : PerMover α) (x : α) (m : Mover) :
    (p.set x m).get m = x := by cases m <;> rfl

theorem PerMover.get_set_of_ne {α : Type} (p : PerMover α) (x : α) {m k : Mover} (h : k ≠ m) :
    (p.set x m).get k = p.get k := by cases m <;> cases k <;> first | rfl | exact absurd rfl h

@[simp] theorem PerMover.set_set {α : Type} (p : PerMover α) (x y : α) (m : Mover) :
    (p.set x m).set y m = p.set y m := by cases m <;> rfl

@[simp] theorem PerMover.set_get {α : Type} (p : PerMover α) (m : Mover) : p.set (p.get m) m = p := by
  cases m <;> rfl

/-! ### The modifying updates are setting updates -/

theorem State.modStation_eq (s : State) (n : Station) (f : StationRecord → StationRecord) :
    s.modStation n f = s.setStation n (f (s.station n)) := rfl

theorem State.modMover_eq (s : State) (m : Mover) (f : MoverRecord → MoverRecord) :
    s.modMover m f = s.setMover m (f (s.mover m)) := rfl

theorem State.modClaim_eq (s : State) (m : Mover) (f : ClaimRecord → ClaimRecord) :
    s.modClaim m f = s.setClaim m (f (s.claim m)) := rfl

theorem State.modModule_eq (s : State) (k : Fin 32) (f : ModuleRecord → ModuleRecord) :
    s.modModule k f = s.setModule k (f (s.module k)) := rfl

/-! ### One lemma per field per update -/

@[simp] theorem State.setStation_now (s : State) (n : Station) (r : StationRecord) : (s.setStation n r).now = s.now := rfl
@[simp] theorem State.setStation_pending (s : State) (n : Station) (r : StationRecord) : (s.setStation n r).pending = s.pending := rfl
@[simp] theorem State.setStation_heldDown (s : State) (n : Station) (r : StationRecord) : (s.setStation n r).heldDown = s.heldDown := rfl
@[simp] theorem State.setStation_mainLost (s : State) (n : Station) (r : StationRecord) : (s.setStation n r).mainLost = s.mainLost := rfl
@[simp] theorem State.setStation_resetAsserted (s : State) (n : Station) (r : StationRecord) : (s.setStation n r).resetAsserted = s.resetAsserted := rfl
@[simp] theorem State.setStation_keepAliveGood (s : State) (n : Station) (r : StationRecord) : (s.setStation n r).keepAliveGood = s.keepAliveGood := rfl
@[simp] theorem State.setStation_keep (s : State) (n : Station) (r : StationRecord) : (s.setStation n r).keep = s.keep := rfl
@[simp] theorem State.setStation_restartFaults (s : State) (n : Station) (r : StationRecord) : (s.setStation n r).restartFaults = s.restartFaults := rfl
@[simp] theorem State.setStation_stations (s : State) (n : Station) (r : StationRecord) : (s.setStation n r).stations = s.stations.set r n := rfl
@[simp] theorem State.setStation_nextSerial (s : State) (n : Station) (r : StationRecord) : (s.setStation n r).nextSerial = s.nextSerial := rfl
@[simp] theorem State.setStation_points (s : State) (n : Station) (r : StationRecord) : (s.setStation n r).points = s.points := rfl
@[simp] theorem State.setStation_zones (s : State) (n : Station) (r : StationRecord) : (s.setStation n r).zones = s.zones := rfl
@[simp] theorem State.setStation_scenes (s : State) (n : Station) (r : StationRecord) : (s.setStation n r).scenes = s.scenes := rfl
@[simp] theorem State.setStation_forces (s : State) (n : Station) (r : StationRecord) : (s.setStation n r).forces = s.forces := rfl
@[simp] theorem State.setStation_profiles (s : State) (n : Station) (r : StationRecord) : (s.setStation n r).profiles = s.profiles := rfl
@[simp] theorem State.setStation_params (s : State) (n : Station) (r : StationRecord) : (s.setStation n r).params = s.params := rfl
@[simp] theorem State.setStation_substs (s : State) (n : Station) (r : StationRecord) : (s.setStation n r).substs = s.substs := rfl
@[simp] theorem State.setStation_resume (s : State) (n : Station) (r : StationRecord) : (s.setStation n r).resume = s.resume := rfl
@[simp] theorem State.setStation_blank (s : State) (n : Station) (r : StationRecord) : (s.setStation n r).blank = s.blank := rfl
@[simp] theorem State.setStation_locked (s : State) (n : Station) (r : StationRecord) : (s.setStation n r).locked = s.locked := rfl
@[simp] theorem State.setStation_staging (s : State) (n : Station) (r : StationRecord) : (s.setStation n r).staging = s.staging := rfl
@[simp] theorem State.setStation_movers (s : State) (n : Station) (r : StationRecord) : (s.setStation n r).movers = s.movers := rfl
@[simp] theorem State.setStation_declaration (s : State) (n : Station) (r : StationRecord) : (s.setStation n r).declaration = s.declaration := rfl
@[simp] theorem State.setStation_creepReference (s : State) (n : Station) (r : StationRecord) : (s.setStation n r).creepReference = s.creepReference := rfl
@[simp] theorem State.setStation_creepFlag (s : State) (n : Station) (r : StationRecord) : (s.setStation n r).creepFlag = s.creepFlag := rfl
@[simp] theorem State.setStation_brakeApplied (s : State) (n : Station) (r : StationRecord) : (s.setStation n r).brakeApplied = s.brakeApplied := rfl
@[simp] theorem State.setStation_latchCheck (s : State) (n : Station) (r : StationRecord) : (s.setStation n r).latchCheck = s.latchCheck := rfl
@[simp] theorem State.setStation_claims (s : State) (n : Station) (r : StationRecord) : (s.setStation n r).claims = s.claims := rfl
@[simp] theorem State.setStation_controls (s : State) (n : Station) (r : StationRecord) : (s.setStation n r).controls = s.controls := rfl
@[simp] theorem State.setStation_footBlocked (s : State) (n : Station) (r : StationRecord) : (s.setStation n r).footBlocked = s.footBlocked := rfl
@[simp] theorem State.setStation_cond (s : State) (n : Station) (r : StationRecord) : (s.setStation n r).cond = s.cond := rfl
@[simp] theorem State.setStation_windows (s : State) (n : Station) (r : StationRecord) : (s.setStation n r).windows = s.windows := rfl
@[simp] theorem State.setStation_held (s : State) (n : Station) (r : StationRecord) : (s.setStation n r).held = s.held := rfl
@[simp] theorem State.setStation_nextHold (s : State) (n : Station) (r : StationRecord) : (s.setStation n r).nextHold = s.nextHold := rfl
@[simp] theorem State.setStation_queue (s : State) (n : Station) (r : StationRecord) : (s.setStation n r).queue = s.queue := rfl
@[simp] theorem State.setStation_awaitingRoom (s : State) (n : Station) (r : StationRecord) : (s.setStation n r).awaitingRoom = s.awaitingRoom := rfl
@[simp] theorem State.setStation_haltSlots (s : State) (n : Station) (r : StationRecord) : (s.setStation n r).haltSlots = s.haltSlots := rfl
@[simp] theorem State.setStation_sideFlights (s : State) (n : Station) (r : StationRecord) : (s.setStation n r).sideFlights = s.sideFlights := rfl
@[simp] theorem State.setStation_modules (s : State) (n : Station) (r : StationRecord) : (s.setStation n r).modules = s.modules := rfl
@[simp] theorem State.setStation_wireSeq (s : State) (n : Station) (r : StationRecord) : (s.setStation n r).wireSeq = s.wireSeq := rfl
@[simp] theorem State.setStation_fences (s : State) (n : Station) (r : StationRecord) : (s.setStation n r).fences = s.fences := rfl
@[simp] theorem State.setStation_roomFreed (s : State) (n : Station) (r : StationRecord) : (s.setStation n r).roomFreed = s.roomFreed := rfl
@[simp] theorem State.setStation_linkOut (s : State) (n : Station) (r : StationRecord) : (s.setStation n r).linkOut = s.linkOut := rfl
@[simp] theorem State.setStation_draws (s : State) (n : Station) (r : StationRecord) : (s.setStation n r).draws = s.draws := rfl

@[simp] theorem State.setMover_now (s : State) (m : Mover) (r : MoverRecord) : (s.setMover m r).now = s.now := rfl
@[simp] theorem State.setMover_pending (s : State) (m : Mover) (r : MoverRecord) : (s.setMover m r).pending = s.pending := rfl
@[simp] theorem State.setMover_heldDown (s : State) (m : Mover) (r : MoverRecord) : (s.setMover m r).heldDown = s.heldDown := rfl
@[simp] theorem State.setMover_mainLost (s : State) (m : Mover) (r : MoverRecord) : (s.setMover m r).mainLost = s.mainLost := rfl
@[simp] theorem State.setMover_resetAsserted (s : State) (m : Mover) (r : MoverRecord) : (s.setMover m r).resetAsserted = s.resetAsserted := rfl
@[simp] theorem State.setMover_keepAliveGood (s : State) (m : Mover) (r : MoverRecord) : (s.setMover m r).keepAliveGood = s.keepAliveGood := rfl
@[simp] theorem State.setMover_keep (s : State) (m : Mover) (r : MoverRecord) : (s.setMover m r).keep = s.keep := rfl
@[simp] theorem State.setMover_restartFaults (s : State) (m : Mover) (r : MoverRecord) : (s.setMover m r).restartFaults = s.restartFaults := rfl
@[simp] theorem State.setMover_stations (s : State) (m : Mover) (r : MoverRecord) : (s.setMover m r).stations = s.stations := rfl
@[simp] theorem State.setMover_nextSerial (s : State) (m : Mover) (r : MoverRecord) : (s.setMover m r).nextSerial = s.nextSerial := rfl
@[simp] theorem State.setMover_points (s : State) (m : Mover) (r : MoverRecord) : (s.setMover m r).points = s.points := rfl
@[simp] theorem State.setMover_zones (s : State) (m : Mover) (r : MoverRecord) : (s.setMover m r).zones = s.zones := rfl
@[simp] theorem State.setMover_scenes (s : State) (m : Mover) (r : MoverRecord) : (s.setMover m r).scenes = s.scenes := rfl
@[simp] theorem State.setMover_forces (s : State) (m : Mover) (r : MoverRecord) : (s.setMover m r).forces = s.forces := rfl
@[simp] theorem State.setMover_profiles (s : State) (m : Mover) (r : MoverRecord) : (s.setMover m r).profiles = s.profiles := rfl
@[simp] theorem State.setMover_params (s : State) (m : Mover) (r : MoverRecord) : (s.setMover m r).params = s.params := rfl
@[simp] theorem State.setMover_substs (s : State) (m : Mover) (r : MoverRecord) : (s.setMover m r).substs = s.substs := rfl
@[simp] theorem State.setMover_resume (s : State) (m : Mover) (r : MoverRecord) : (s.setMover m r).resume = s.resume := rfl
@[simp] theorem State.setMover_blank (s : State) (m : Mover) (r : MoverRecord) : (s.setMover m r).blank = s.blank := rfl
@[simp] theorem State.setMover_locked (s : State) (m : Mover) (r : MoverRecord) : (s.setMover m r).locked = s.locked := rfl
@[simp] theorem State.setMover_staging (s : State) (m : Mover) (r : MoverRecord) : (s.setMover m r).staging = s.staging := rfl
@[simp] theorem State.setMover_movers (s : State) (m : Mover) (r : MoverRecord) : (s.setMover m r).movers = s.movers.set r m := rfl
@[simp] theorem State.setMover_declaration (s : State) (m : Mover) (r : MoverRecord) : (s.setMover m r).declaration = s.declaration := rfl
@[simp] theorem State.setMover_creepReference (s : State) (m : Mover) (r : MoverRecord) : (s.setMover m r).creepReference = s.creepReference := rfl
@[simp] theorem State.setMover_creepFlag (s : State) (m : Mover) (r : MoverRecord) : (s.setMover m r).creepFlag = s.creepFlag := rfl
@[simp] theorem State.setMover_brakeApplied (s : State) (m : Mover) (r : MoverRecord) : (s.setMover m r).brakeApplied = s.brakeApplied := rfl
@[simp] theorem State.setMover_latchCheck (s : State) (m : Mover) (r : MoverRecord) : (s.setMover m r).latchCheck = s.latchCheck := rfl
@[simp] theorem State.setMover_claims (s : State) (m : Mover) (r : MoverRecord) : (s.setMover m r).claims = s.claims := rfl
@[simp] theorem State.setMover_controls (s : State) (m : Mover) (r : MoverRecord) : (s.setMover m r).controls = s.controls := rfl
@[simp] theorem State.setMover_footBlocked (s : State) (m : Mover) (r : MoverRecord) : (s.setMover m r).footBlocked = s.footBlocked := rfl
@[simp] theorem State.setMover_cond (s : State) (m : Mover) (r : MoverRecord) : (s.setMover m r).cond = s.cond := rfl
@[simp] theorem State.setMover_windows (s : State) (m : Mover) (r : MoverRecord) : (s.setMover m r).windows = s.windows := rfl
@[simp] theorem State.setMover_held (s : State) (m : Mover) (r : MoverRecord) : (s.setMover m r).held = s.held := rfl
@[simp] theorem State.setMover_nextHold (s : State) (m : Mover) (r : MoverRecord) : (s.setMover m r).nextHold = s.nextHold := rfl
@[simp] theorem State.setMover_queue (s : State) (m : Mover) (r : MoverRecord) : (s.setMover m r).queue = s.queue := rfl
@[simp] theorem State.setMover_awaitingRoom (s : State) (m : Mover) (r : MoverRecord) : (s.setMover m r).awaitingRoom = s.awaitingRoom := rfl
@[simp] theorem State.setMover_haltSlots (s : State) (m : Mover) (r : MoverRecord) : (s.setMover m r).haltSlots = s.haltSlots := rfl
@[simp] theorem State.setMover_sideFlights (s : State) (m : Mover) (r : MoverRecord) : (s.setMover m r).sideFlights = s.sideFlights := rfl
@[simp] theorem State.setMover_modules (s : State) (m : Mover) (r : MoverRecord) : (s.setMover m r).modules = s.modules := rfl
@[simp] theorem State.setMover_wireSeq (s : State) (m : Mover) (r : MoverRecord) : (s.setMover m r).wireSeq = s.wireSeq := rfl
@[simp] theorem State.setMover_fences (s : State) (m : Mover) (r : MoverRecord) : (s.setMover m r).fences = s.fences := rfl
@[simp] theorem State.setMover_roomFreed (s : State) (m : Mover) (r : MoverRecord) : (s.setMover m r).roomFreed = s.roomFreed := rfl
@[simp] theorem State.setMover_linkOut (s : State) (m : Mover) (r : MoverRecord) : (s.setMover m r).linkOut = s.linkOut := rfl
@[simp] theorem State.setMover_draws (s : State) (m : Mover) (r : MoverRecord) : (s.setMover m r).draws = s.draws := rfl

@[simp] theorem State.setClaim_now (s : State) (m : Mover) (r : ClaimRecord) : (s.setClaim m r).now = s.now := rfl
@[simp] theorem State.setClaim_pending (s : State) (m : Mover) (r : ClaimRecord) : (s.setClaim m r).pending = s.pending := rfl
@[simp] theorem State.setClaim_heldDown (s : State) (m : Mover) (r : ClaimRecord) : (s.setClaim m r).heldDown = s.heldDown := rfl
@[simp] theorem State.setClaim_mainLost (s : State) (m : Mover) (r : ClaimRecord) : (s.setClaim m r).mainLost = s.mainLost := rfl
@[simp] theorem State.setClaim_resetAsserted (s : State) (m : Mover) (r : ClaimRecord) : (s.setClaim m r).resetAsserted = s.resetAsserted := rfl
@[simp] theorem State.setClaim_keepAliveGood (s : State) (m : Mover) (r : ClaimRecord) : (s.setClaim m r).keepAliveGood = s.keepAliveGood := rfl
@[simp] theorem State.setClaim_keep (s : State) (m : Mover) (r : ClaimRecord) : (s.setClaim m r).keep = s.keep := rfl
@[simp] theorem State.setClaim_restartFaults (s : State) (m : Mover) (r : ClaimRecord) : (s.setClaim m r).restartFaults = s.restartFaults := rfl
@[simp] theorem State.setClaim_stations (s : State) (m : Mover) (r : ClaimRecord) : (s.setClaim m r).stations = s.stations := rfl
@[simp] theorem State.setClaim_nextSerial (s : State) (m : Mover) (r : ClaimRecord) : (s.setClaim m r).nextSerial = s.nextSerial := rfl
@[simp] theorem State.setClaim_points (s : State) (m : Mover) (r : ClaimRecord) : (s.setClaim m r).points = s.points := rfl
@[simp] theorem State.setClaim_zones (s : State) (m : Mover) (r : ClaimRecord) : (s.setClaim m r).zones = s.zones := rfl
@[simp] theorem State.setClaim_scenes (s : State) (m : Mover) (r : ClaimRecord) : (s.setClaim m r).scenes = s.scenes := rfl
@[simp] theorem State.setClaim_forces (s : State) (m : Mover) (r : ClaimRecord) : (s.setClaim m r).forces = s.forces := rfl
@[simp] theorem State.setClaim_profiles (s : State) (m : Mover) (r : ClaimRecord) : (s.setClaim m r).profiles = s.profiles := rfl
@[simp] theorem State.setClaim_params (s : State) (m : Mover) (r : ClaimRecord) : (s.setClaim m r).params = s.params := rfl
@[simp] theorem State.setClaim_substs (s : State) (m : Mover) (r : ClaimRecord) : (s.setClaim m r).substs = s.substs := rfl
@[simp] theorem State.setClaim_resume (s : State) (m : Mover) (r : ClaimRecord) : (s.setClaim m r).resume = s.resume := rfl
@[simp] theorem State.setClaim_blank (s : State) (m : Mover) (r : ClaimRecord) : (s.setClaim m r).blank = s.blank := rfl
@[simp] theorem State.setClaim_locked (s : State) (m : Mover) (r : ClaimRecord) : (s.setClaim m r).locked = s.locked := rfl
@[simp] theorem State.setClaim_staging (s : State) (m : Mover) (r : ClaimRecord) : (s.setClaim m r).staging = s.staging := rfl
@[simp] theorem State.setClaim_movers (s : State) (m : Mover) (r : ClaimRecord) : (s.setClaim m r).movers = s.movers := rfl
@[simp] theorem State.setClaim_declaration (s : State) (m : Mover) (r : ClaimRecord) : (s.setClaim m r).declaration = s.declaration := rfl
@[simp] theorem State.setClaim_creepReference (s : State) (m : Mover) (r : ClaimRecord) : (s.setClaim m r).creepReference = s.creepReference := rfl
@[simp] theorem State.setClaim_creepFlag (s : State) (m : Mover) (r : ClaimRecord) : (s.setClaim m r).creepFlag = s.creepFlag := rfl
@[simp] theorem State.setClaim_brakeApplied (s : State) (m : Mover) (r : ClaimRecord) : (s.setClaim m r).brakeApplied = s.brakeApplied := rfl
@[simp] theorem State.setClaim_latchCheck (s : State) (m : Mover) (r : ClaimRecord) : (s.setClaim m r).latchCheck = s.latchCheck := rfl
@[simp] theorem State.setClaim_claims (s : State) (m : Mover) (r : ClaimRecord) : (s.setClaim m r).claims = s.claims.set r m := rfl
@[simp] theorem State.setClaim_controls (s : State) (m : Mover) (r : ClaimRecord) : (s.setClaim m r).controls = s.controls := rfl
@[simp] theorem State.setClaim_footBlocked (s : State) (m : Mover) (r : ClaimRecord) : (s.setClaim m r).footBlocked = s.footBlocked := rfl
@[simp] theorem State.setClaim_cond (s : State) (m : Mover) (r : ClaimRecord) : (s.setClaim m r).cond = s.cond := rfl
@[simp] theorem State.setClaim_windows (s : State) (m : Mover) (r : ClaimRecord) : (s.setClaim m r).windows = s.windows := rfl
@[simp] theorem State.setClaim_held (s : State) (m : Mover) (r : ClaimRecord) : (s.setClaim m r).held = s.held := rfl
@[simp] theorem State.setClaim_nextHold (s : State) (m : Mover) (r : ClaimRecord) : (s.setClaim m r).nextHold = s.nextHold := rfl
@[simp] theorem State.setClaim_queue (s : State) (m : Mover) (r : ClaimRecord) : (s.setClaim m r).queue = s.queue := rfl
@[simp] theorem State.setClaim_awaitingRoom (s : State) (m : Mover) (r : ClaimRecord) : (s.setClaim m r).awaitingRoom = s.awaitingRoom := rfl
@[simp] theorem State.setClaim_haltSlots (s : State) (m : Mover) (r : ClaimRecord) : (s.setClaim m r).haltSlots = s.haltSlots := rfl
@[simp] theorem State.setClaim_sideFlights (s : State) (m : Mover) (r : ClaimRecord) : (s.setClaim m r).sideFlights = s.sideFlights := rfl
@[simp] theorem State.setClaim_modules (s : State) (m : Mover) (r : ClaimRecord) : (s.setClaim m r).modules = s.modules := rfl
@[simp] theorem State.setClaim_wireSeq (s : State) (m : Mover) (r : ClaimRecord) : (s.setClaim m r).wireSeq = s.wireSeq := rfl
@[simp] theorem State.setClaim_fences (s : State) (m : Mover) (r : ClaimRecord) : (s.setClaim m r).fences = s.fences := rfl
@[simp] theorem State.setClaim_roomFreed (s : State) (m : Mover) (r : ClaimRecord) : (s.setClaim m r).roomFreed = s.roomFreed := rfl
@[simp] theorem State.setClaim_linkOut (s : State) (m : Mover) (r : ClaimRecord) : (s.setClaim m r).linkOut = s.linkOut := rfl
@[simp] theorem State.setClaim_draws (s : State) (m : Mover) (r : ClaimRecord) : (s.setClaim m r).draws = s.draws := rfl

@[simp] theorem State.setModule_now (s : State) (k : Fin 32) (r : ModuleRecord) : (s.setModule k r).now = s.now := rfl
@[simp] theorem State.setModule_pending (s : State) (k : Fin 32) (r : ModuleRecord) : (s.setModule k r).pending = s.pending := rfl
@[simp] theorem State.setModule_heldDown (s : State) (k : Fin 32) (r : ModuleRecord) : (s.setModule k r).heldDown = s.heldDown := rfl
@[simp] theorem State.setModule_mainLost (s : State) (k : Fin 32) (r : ModuleRecord) : (s.setModule k r).mainLost = s.mainLost := rfl
@[simp] theorem State.setModule_resetAsserted (s : State) (k : Fin 32) (r : ModuleRecord) : (s.setModule k r).resetAsserted = s.resetAsserted := rfl
@[simp] theorem State.setModule_keepAliveGood (s : State) (k : Fin 32) (r : ModuleRecord) : (s.setModule k r).keepAliveGood = s.keepAliveGood := rfl
@[simp] theorem State.setModule_keep (s : State) (k : Fin 32) (r : ModuleRecord) : (s.setModule k r).keep = s.keep := rfl
@[simp] theorem State.setModule_restartFaults (s : State) (k : Fin 32) (r : ModuleRecord) : (s.setModule k r).restartFaults = s.restartFaults := rfl
@[simp] theorem State.setModule_stations (s : State) (k : Fin 32) (r : ModuleRecord) : (s.setModule k r).stations = s.stations := rfl
@[simp] theorem State.setModule_nextSerial (s : State) (k : Fin 32) (r : ModuleRecord) : (s.setModule k r).nextSerial = s.nextSerial := rfl
@[simp] theorem State.setModule_points (s : State) (k : Fin 32) (r : ModuleRecord) : (s.setModule k r).points = s.points := rfl
@[simp] theorem State.setModule_zones (s : State) (k : Fin 32) (r : ModuleRecord) : (s.setModule k r).zones = s.zones := rfl
@[simp] theorem State.setModule_scenes (s : State) (k : Fin 32) (r : ModuleRecord) : (s.setModule k r).scenes = s.scenes := rfl
@[simp] theorem State.setModule_forces (s : State) (k : Fin 32) (r : ModuleRecord) : (s.setModule k r).forces = s.forces := rfl
@[simp] theorem State.setModule_profiles (s : State) (k : Fin 32) (r : ModuleRecord) : (s.setModule k r).profiles = s.profiles := rfl
@[simp] theorem State.setModule_params (s : State) (k : Fin 32) (r : ModuleRecord) : (s.setModule k r).params = s.params := rfl
@[simp] theorem State.setModule_substs (s : State) (k : Fin 32) (r : ModuleRecord) : (s.setModule k r).substs = s.substs := rfl
@[simp] theorem State.setModule_resume (s : State) (k : Fin 32) (r : ModuleRecord) : (s.setModule k r).resume = s.resume := rfl
@[simp] theorem State.setModule_blank (s : State) (k : Fin 32) (r : ModuleRecord) : (s.setModule k r).blank = s.blank := rfl
@[simp] theorem State.setModule_locked (s : State) (k : Fin 32) (r : ModuleRecord) : (s.setModule k r).locked = s.locked := rfl
@[simp] theorem State.setModule_staging (s : State) (k : Fin 32) (r : ModuleRecord) : (s.setModule k r).staging = s.staging := rfl
@[simp] theorem State.setModule_movers (s : State) (k : Fin 32) (r : ModuleRecord) : (s.setModule k r).movers = s.movers := rfl
@[simp] theorem State.setModule_declaration (s : State) (k : Fin 32) (r : ModuleRecord) : (s.setModule k r).declaration = s.declaration := rfl
@[simp] theorem State.setModule_creepReference (s : State) (k : Fin 32) (r : ModuleRecord) : (s.setModule k r).creepReference = s.creepReference := rfl
@[simp] theorem State.setModule_creepFlag (s : State) (k : Fin 32) (r : ModuleRecord) : (s.setModule k r).creepFlag = s.creepFlag := rfl
@[simp] theorem State.setModule_brakeApplied (s : State) (k : Fin 32) (r : ModuleRecord) : (s.setModule k r).brakeApplied = s.brakeApplied := rfl
@[simp] theorem State.setModule_latchCheck (s : State) (k : Fin 32) (r : ModuleRecord) : (s.setModule k r).latchCheck = s.latchCheck := rfl
@[simp] theorem State.setModule_claims (s : State) (k : Fin 32) (r : ModuleRecord) : (s.setModule k r).claims = s.claims := rfl
@[simp] theorem State.setModule_controls (s : State) (k : Fin 32) (r : ModuleRecord) : (s.setModule k r).controls = s.controls := rfl
@[simp] theorem State.setModule_footBlocked (s : State) (k : Fin 32) (r : ModuleRecord) : (s.setModule k r).footBlocked = s.footBlocked := rfl
@[simp] theorem State.setModule_cond (s : State) (k : Fin 32) (r : ModuleRecord) : (s.setModule k r).cond = s.cond := rfl
@[simp] theorem State.setModule_windows (s : State) (k : Fin 32) (r : ModuleRecord) : (s.setModule k r).windows = s.windows := rfl
@[simp] theorem State.setModule_held (s : State) (k : Fin 32) (r : ModuleRecord) : (s.setModule k r).held = s.held := rfl
@[simp] theorem State.setModule_nextHold (s : State) (k : Fin 32) (r : ModuleRecord) : (s.setModule k r).nextHold = s.nextHold := rfl
@[simp] theorem State.setModule_queue (s : State) (k : Fin 32) (r : ModuleRecord) : (s.setModule k r).queue = s.queue := rfl
@[simp] theorem State.setModule_awaitingRoom (s : State) (k : Fin 32) (r : ModuleRecord) : (s.setModule k r).awaitingRoom = s.awaitingRoom := rfl
@[simp] theorem State.setModule_haltSlots (s : State) (k : Fin 32) (r : ModuleRecord) : (s.setModule k r).haltSlots = s.haltSlots := rfl
@[simp] theorem State.setModule_sideFlights (s : State) (k : Fin 32) (r : ModuleRecord) : (s.setModule k r).sideFlights = s.sideFlights := rfl
@[simp] theorem State.setModule_modules (s : State) (k : Fin 32) (r : ModuleRecord) : (s.setModule k r).modules = s.modules.set k r := rfl
@[simp] theorem State.setModule_wireSeq (s : State) (k : Fin 32) (r : ModuleRecord) : (s.setModule k r).wireSeq = s.wireSeq := rfl
@[simp] theorem State.setModule_fences (s : State) (k : Fin 32) (r : ModuleRecord) : (s.setModule k r).fences = s.fences := rfl
@[simp] theorem State.setModule_roomFreed (s : State) (k : Fin 32) (r : ModuleRecord) : (s.setModule k r).roomFreed = s.roomFreed := rfl
@[simp] theorem State.setModule_linkOut (s : State) (k : Fin 32) (r : ModuleRecord) : (s.setModule k r).linkOut = s.linkOut := rfl
@[simp] theorem State.setModule_draws (s : State) (k : Fin 32) (r : ModuleRecord) : (s.setModule k r).draws = s.draws := rfl

@[simp] theorem State.modPoint_now (s : State) (p : Nat) (f : PointEntry → PointEntry) : (s.modPoint p f).now = s.now := rfl
@[simp] theorem State.modPoint_pending (s : State) (p : Nat) (f : PointEntry → PointEntry) : (s.modPoint p f).pending = s.pending := rfl
@[simp] theorem State.modPoint_heldDown (s : State) (p : Nat) (f : PointEntry → PointEntry) : (s.modPoint p f).heldDown = s.heldDown := rfl
@[simp] theorem State.modPoint_mainLost (s : State) (p : Nat) (f : PointEntry → PointEntry) : (s.modPoint p f).mainLost = s.mainLost := rfl
@[simp] theorem State.modPoint_resetAsserted (s : State) (p : Nat) (f : PointEntry → PointEntry) : (s.modPoint p f).resetAsserted = s.resetAsserted := rfl
@[simp] theorem State.modPoint_keepAliveGood (s : State) (p : Nat) (f : PointEntry → PointEntry) : (s.modPoint p f).keepAliveGood = s.keepAliveGood := rfl
@[simp] theorem State.modPoint_keep (s : State) (p : Nat) (f : PointEntry → PointEntry) : (s.modPoint p f).keep = s.keep := rfl
@[simp] theorem State.modPoint_restartFaults (s : State) (p : Nat) (f : PointEntry → PointEntry) : (s.modPoint p f).restartFaults = s.restartFaults := rfl
@[simp] theorem State.modPoint_stations (s : State) (p : Nat) (f : PointEntry → PointEntry) : (s.modPoint p f).stations = s.stations := rfl
@[simp] theorem State.modPoint_nextSerial (s : State) (p : Nat) (f : PointEntry → PointEntry) : (s.modPoint p f).nextSerial = s.nextSerial := rfl
@[simp] theorem State.modPoint_points (s : State) (p : Nat) (f : PointEntry → PointEntry) : (s.modPoint p f).points = s.points.modify p f := rfl
@[simp] theorem State.modPoint_zones (s : State) (p : Nat) (f : PointEntry → PointEntry) : (s.modPoint p f).zones = s.zones := rfl
@[simp] theorem State.modPoint_scenes (s : State) (p : Nat) (f : PointEntry → PointEntry) : (s.modPoint p f).scenes = s.scenes := rfl
@[simp] theorem State.modPoint_forces (s : State) (p : Nat) (f : PointEntry → PointEntry) : (s.modPoint p f).forces = s.forces := rfl
@[simp] theorem State.modPoint_profiles (s : State) (p : Nat) (f : PointEntry → PointEntry) : (s.modPoint p f).profiles = s.profiles := rfl
@[simp] theorem State.modPoint_params (s : State) (p : Nat) (f : PointEntry → PointEntry) : (s.modPoint p f).params = s.params := rfl
@[simp] theorem State.modPoint_substs (s : State) (p : Nat) (f : PointEntry → PointEntry) : (s.modPoint p f).substs = s.substs := rfl
@[simp] theorem State.modPoint_resume (s : State) (p : Nat) (f : PointEntry → PointEntry) : (s.modPoint p f).resume = s.resume := rfl
@[simp] theorem State.modPoint_blank (s : State) (p : Nat) (f : PointEntry → PointEntry) : (s.modPoint p f).blank = s.blank := rfl
@[simp] theorem State.modPoint_locked (s : State) (p : Nat) (f : PointEntry → PointEntry) : (s.modPoint p f).locked = s.locked := rfl
@[simp] theorem State.modPoint_staging (s : State) (p : Nat) (f : PointEntry → PointEntry) : (s.modPoint p f).staging = s.staging := rfl
@[simp] theorem State.modPoint_movers (s : State) (p : Nat) (f : PointEntry → PointEntry) : (s.modPoint p f).movers = s.movers := rfl
@[simp] theorem State.modPoint_declaration (s : State) (p : Nat) (f : PointEntry → PointEntry) : (s.modPoint p f).declaration = s.declaration := rfl
@[simp] theorem State.modPoint_creepReference (s : State) (p : Nat) (f : PointEntry → PointEntry) : (s.modPoint p f).creepReference = s.creepReference := rfl
@[simp] theorem State.modPoint_creepFlag (s : State) (p : Nat) (f : PointEntry → PointEntry) : (s.modPoint p f).creepFlag = s.creepFlag := rfl
@[simp] theorem State.modPoint_brakeApplied (s : State) (p : Nat) (f : PointEntry → PointEntry) : (s.modPoint p f).brakeApplied = s.brakeApplied := rfl
@[simp] theorem State.modPoint_latchCheck (s : State) (p : Nat) (f : PointEntry → PointEntry) : (s.modPoint p f).latchCheck = s.latchCheck := rfl
@[simp] theorem State.modPoint_claims (s : State) (p : Nat) (f : PointEntry → PointEntry) : (s.modPoint p f).claims = s.claims := rfl
@[simp] theorem State.modPoint_controls (s : State) (p : Nat) (f : PointEntry → PointEntry) : (s.modPoint p f).controls = s.controls := rfl
@[simp] theorem State.modPoint_footBlocked (s : State) (p : Nat) (f : PointEntry → PointEntry) : (s.modPoint p f).footBlocked = s.footBlocked := rfl
@[simp] theorem State.modPoint_cond (s : State) (p : Nat) (f : PointEntry → PointEntry) : (s.modPoint p f).cond = s.cond := rfl
@[simp] theorem State.modPoint_windows (s : State) (p : Nat) (f : PointEntry → PointEntry) : (s.modPoint p f).windows = s.windows := rfl
@[simp] theorem State.modPoint_held (s : State) (p : Nat) (f : PointEntry → PointEntry) : (s.modPoint p f).held = s.held := rfl
@[simp] theorem State.modPoint_nextHold (s : State) (p : Nat) (f : PointEntry → PointEntry) : (s.modPoint p f).nextHold = s.nextHold := rfl
@[simp] theorem State.modPoint_queue (s : State) (p : Nat) (f : PointEntry → PointEntry) : (s.modPoint p f).queue = s.queue := rfl
@[simp] theorem State.modPoint_awaitingRoom (s : State) (p : Nat) (f : PointEntry → PointEntry) : (s.modPoint p f).awaitingRoom = s.awaitingRoom := rfl
@[simp] theorem State.modPoint_haltSlots (s : State) (p : Nat) (f : PointEntry → PointEntry) : (s.modPoint p f).haltSlots = s.haltSlots := rfl
@[simp] theorem State.modPoint_sideFlights (s : State) (p : Nat) (f : PointEntry → PointEntry) : (s.modPoint p f).sideFlights = s.sideFlights := rfl
@[simp] theorem State.modPoint_modules (s : State) (p : Nat) (f : PointEntry → PointEntry) : (s.modPoint p f).modules = s.modules := rfl
@[simp] theorem State.modPoint_wireSeq (s : State) (p : Nat) (f : PointEntry → PointEntry) : (s.modPoint p f).wireSeq = s.wireSeq := rfl
@[simp] theorem State.modPoint_fences (s : State) (p : Nat) (f : PointEntry → PointEntry) : (s.modPoint p f).fences = s.fences := rfl
@[simp] theorem State.modPoint_roomFreed (s : State) (p : Nat) (f : PointEntry → PointEntry) : (s.modPoint p f).roomFreed = s.roomFreed := rfl
@[simp] theorem State.modPoint_linkOut (s : State) (p : Nat) (f : PointEntry → PointEntry) : (s.modPoint p f).linkOut = s.linkOut := rfl
@[simp] theorem State.modPoint_draws (s : State) (p : Nat) (f : PointEntry → PointEntry) : (s.modPoint p f).draws = s.draws := rfl

@[simp] theorem State.reach_now (s : State) (t : Nat) : (s.reach t).now = max s.now t := rfl
@[simp] theorem State.reach_pending (s : State) (t : Nat) : (s.reach t).pending = s.pending := rfl
@[simp] theorem State.reach_heldDown (s : State) (t : Nat) : (s.reach t).heldDown = s.heldDown := rfl
@[simp] theorem State.reach_mainLost (s : State) (t : Nat) : (s.reach t).mainLost = s.mainLost := rfl
@[simp] theorem State.reach_resetAsserted (s : State) (t : Nat) : (s.reach t).resetAsserted = s.resetAsserted := rfl
@[simp] theorem State.reach_keepAliveGood (s : State) (t : Nat) : (s.reach t).keepAliveGood = s.keepAliveGood := rfl
@[simp] theorem State.reach_keep (s : State) (t : Nat) : (s.reach t).keep = s.keep := rfl
@[simp] theorem State.reach_restartFaults (s : State) (t : Nat) : (s.reach t).restartFaults = s.restartFaults := rfl
@[simp] theorem State.reach_stations (s : State) (t : Nat) : (s.reach t).stations = s.stations := rfl
@[simp] theorem State.reach_nextSerial (s : State) (t : Nat) : (s.reach t).nextSerial = s.nextSerial := rfl
@[simp] theorem State.reach_points (s : State) (t : Nat) : (s.reach t).points = s.points := rfl
@[simp] theorem State.reach_zones (s : State) (t : Nat) : (s.reach t).zones = s.zones := rfl
@[simp] theorem State.reach_scenes (s : State) (t : Nat) : (s.reach t).scenes = s.scenes := rfl
@[simp] theorem State.reach_forces (s : State) (t : Nat) : (s.reach t).forces = s.forces := rfl
@[simp] theorem State.reach_profiles (s : State) (t : Nat) : (s.reach t).profiles = s.profiles := rfl
@[simp] theorem State.reach_params (s : State) (t : Nat) : (s.reach t).params = s.params := rfl
@[simp] theorem State.reach_substs (s : State) (t : Nat) : (s.reach t).substs = s.substs := rfl
@[simp] theorem State.reach_resume (s : State) (t : Nat) : (s.reach t).resume = s.resume := rfl
@[simp] theorem State.reach_blank (s : State) (t : Nat) : (s.reach t).blank = s.blank := rfl
@[simp] theorem State.reach_locked (s : State) (t : Nat) : (s.reach t).locked = s.locked := rfl
@[simp] theorem State.reach_staging (s : State) (t : Nat) : (s.reach t).staging = s.staging := rfl
@[simp] theorem State.reach_movers (s : State) (t : Nat) : (s.reach t).movers = s.movers := rfl
@[simp] theorem State.reach_declaration (s : State) (t : Nat) : (s.reach t).declaration = s.declaration := rfl
@[simp] theorem State.reach_creepReference (s : State) (t : Nat) : (s.reach t).creepReference = s.creepReference := rfl
@[simp] theorem State.reach_creepFlag (s : State) (t : Nat) : (s.reach t).creepFlag = s.creepFlag := rfl
@[simp] theorem State.reach_brakeApplied (s : State) (t : Nat) : (s.reach t).brakeApplied = s.brakeApplied := rfl
@[simp] theorem State.reach_latchCheck (s : State) (t : Nat) : (s.reach t).latchCheck = s.latchCheck := rfl
@[simp] theorem State.reach_claims (s : State) (t : Nat) : (s.reach t).claims = s.claims := rfl
@[simp] theorem State.reach_controls (s : State) (t : Nat) : (s.reach t).controls = s.controls := rfl
@[simp] theorem State.reach_footBlocked (s : State) (t : Nat) : (s.reach t).footBlocked = s.footBlocked := rfl
@[simp] theorem State.reach_cond (s : State) (t : Nat) : (s.reach t).cond = s.cond := rfl
@[simp] theorem State.reach_windows (s : State) (t : Nat) : (s.reach t).windows = s.windows := rfl
@[simp] theorem State.reach_held (s : State) (t : Nat) : (s.reach t).held = s.held := rfl
@[simp] theorem State.reach_nextHold (s : State) (t : Nat) : (s.reach t).nextHold = s.nextHold := rfl
@[simp] theorem State.reach_queue (s : State) (t : Nat) : (s.reach t).queue = s.queue := rfl
@[simp] theorem State.reach_awaitingRoom (s : State) (t : Nat) : (s.reach t).awaitingRoom = s.awaitingRoom := rfl
@[simp] theorem State.reach_haltSlots (s : State) (t : Nat) : (s.reach t).haltSlots = s.haltSlots := rfl
@[simp] theorem State.reach_sideFlights (s : State) (t : Nat) : (s.reach t).sideFlights = s.sideFlights := rfl
@[simp] theorem State.reach_modules (s : State) (t : Nat) : (s.reach t).modules = s.modules := rfl
@[simp] theorem State.reach_wireSeq (s : State) (t : Nat) : (s.reach t).wireSeq = s.wireSeq := rfl
@[simp] theorem State.reach_fences (s : State) (t : Nat) : (s.reach t).fences = s.fences := rfl
@[simp] theorem State.reach_roomFreed (s : State) (t : Nat) : (s.reach t).roomFreed = s.roomFreed := rfl
@[simp] theorem State.reach_linkOut (s : State) (t : Nat) : (s.reach t).linkOut = s.linkOut := rfl
@[simp] theorem State.reach_draws (s : State) (t : Nat) : (s.reach t).draws = s.draws := rfl

/-! ### Reading a record back -/

@[simp] theorem State.station_setStation_self (s : State) (n : Station) (r : StationRecord) :
    (s.setStation n r).station n = r := PerStation.get_set_self ..

theorem State.station_setStation_of_ne (s : State) {n k : Station} (r : StationRecord) (h : k ≠ n) :
    (s.setStation n r).station k = s.station k := PerStation.get_set_of_ne _ _ h

@[simp] theorem State.mover_setMover_self (s : State) (m : Mover) (r : MoverRecord) :
    (s.setMover m r).mover m = r := PerMover.get_set_self ..

theorem State.mover_setMover_of_ne (s : State) {m k : Mover} (r : MoverRecord) (h : k ≠ m) :
    (s.setMover m r).mover k = s.mover k := PerMover.get_set_of_ne _ _ h

@[simp] theorem State.claim_setClaim_self (s : State) (m : Mover) (r : ClaimRecord) :
    (s.setClaim m r).claim m = r := PerMover.get_set_self ..

theorem State.claim_setClaim_of_ne (s : State) {m k : Mover} (r : ClaimRecord) (h : k ≠ m) :
    (s.setClaim m r).claim k = s.claim k := PerMover.get_set_of_ne _ _ h

@[simp] theorem State.module_setModule_self (s : State) (k : Fin 32) (r : ModuleRecord) :
    (s.setModule k r).module k = r := by simp [State.module]

theorem State.module_setModule_of_ne (s : State) {k j : Fin 32} (r : ModuleRecord) (h : j ≠ k) :
    (s.setModule k r).module j = s.module j := by
  simp only [State.module, State.setModule_modules, Fin.getElem_fin]
  exact Vector.getElem_set_ne (h := fun e => h (Fin.ext e.symm)) ..

end Sys2Proof.Machine
end

