-- ==== Sys2Proof/Laws/Answers.lean ====
section
/-! SUPPORT. What answers, refusals, events and the taking of an order can do: they touch the Station Records alone, and
of these only what each lemma names. -/

namespace Sys2Proof.Machine

/-! ### Events -/

@[simp] theorem raise_eq (e : Event) (n : Station) (s : State) :
    raise e n s = s.setStation n ((s.station n).raise e) := rfl

theorem raiseAll_station (e : Event) (s : State) (n : Station) :
    (raiseAll e s).station n = (s.station n).raise e := by cases n <;> rfl

theorem raiseAll_touches (e : Event) (s : State) :
    raiseAll e s = { s with stations := (raiseAll e s).stations } := rfl

/-- Raising an event changes the status set alone. -/
theorem StationRecord.raise_eq (e : Event) (r : StationRecord) :
    r.raise e = { r with status := if r.attached then r.status ||| e.bit else r.status } := by
  obtain ⟨attached, _⟩ := r; cases attached <;> rfl

theorem writeFault_touches (n : Station) (rec : FaultRecord) (s : State) :
    writeFault n rec s = { s with stations := (writeFault n rec s).stations } := rfl

/-- A fault record is written in an attached station only, and nothing else of any station changes. -/
theorem writeFault_station (n k : Station) (rec : FaultRecord) (s : State) :
    (writeFault n rec s).station k =
      if k = n ∧ (s.station n).attached then { s.station k with fault := rec } else s.station k := by
  unfold writeFault State.modStation
  by_cases h : k = n
  · subst h
    simp only [State.station_setStation_self, true_and]
  · rw [State.station_setStation_of_ne _ _ h]; simp [h]

/-! ### Answers -/

theorem answerAbout_touches (subj : Option Subject) (r : OrderRef) (res : Result) (why : Reason) (data : List Word)
    (s : State) :
    answerAbout subj r res why data s = { s with stations := (answerAbout subj r res why data s).stations } := by
  unfold answerAbout
  split
  · rfl
  · split <;> rfl

/-- What an answer can do to a Station Record: stages change, replies are appended, the fault record may be written. -/
structure StationRecord.Answers (a b : StationRecord) : Prop where
  attached : b.attached = a.attached
  receiver : b.receiver = a.receiver
  status   : b.status = a.status
  enable   : b.enable = a.enable
  reports  : b.reports = a.reports
  tx       : b.tx = a.tx
  tags     : b.intake.map (fun e => (e.serial, e.tag, e.code, e.target, e.attrs, e.words)) =
               a.intake.map fun e => (e.serial, e.tag, e.code, e.target, e.attrs, e.words)
  replies  : ∃ extra, b.replies = a.replies ++ extra

theorem StationRecord.Answers.refl (a : StationRecord) : a.Answers a :=
  ⟨rfl, rfl, rfl, rfl, rfl, rfl, rfl, [], by simp⟩

theorem StationRecord.Answers.trans {a b c : StationRecord} (h : a.Answers b) (g : b.Answers c) : a.Answers c := by
  obtain ⟨x, hx⟩ := h.replies
  obtain ⟨y, hy⟩ := g.replies
  exact ⟨g.attached.trans h.attached, g.receiver.trans h.receiver, g.status.trans h.status, g.enable.trans h.enable,
    g.reports.trans h.reports, g.tx.trans h.tx, g.tags.trans h.tags, x ++ y, by rw [hy, hx, List.append_assoc]⟩

theorem answerAbout_station (subj : Option Subject) (r : OrderRef) (res : Result) (why : Reason) (data : List Word)
    (s : State) (n : Station) :
    (s.station n).Answers ((answerAbout subj r res why data s).station n) := by
  have base : ∀ e, (s.station r.station).intake.find? (fun x => x.serial == r.serial) = some e →
      (s.station n).Answers ((s.modStation r.station fun rec =>
        { rec with
          intake := rec.intake.map fun x => if x.serial == r.serial then { x with stage := .answered } else x
          replies := rec.replies ++ [⟨some r.serial, r.tag, res, why, data⟩] }).station n) := by
    intro e _
    by_cases h : n = r.station
    · subst h
      rw [State.modStation_eq, State.station_setStation_self]
      refine ⟨rfl, rfl, rfl, rfl, rfl, rfl, ?_, _, rfl⟩
      simp only [List.map_map]
      apply List.map_congr_left
      intro x _
      simp only [Function.comp]
      split <;> rfl
    · rw [State.modStation_eq, State.station_setStation_of_ne _ _ h]; exact .refl _
  unfold answerAbout
  split
  · exact .refl _
  · rename_i e he
    split
    · exact base e he
    · refine (base e he).trans ?_
      rw [writeFault_station]
      split
      · exact ⟨rfl, rfl, rfl, rfl, rfl, rfl, rfl, [], by simp⟩
      · exact .refl _

/-- The answer of an order whose entry is outstanding places its reply last. -/
theorem answerAbout_replies (subj : Option Subject) (r : OrderRef) (res : Result) (why : Reason) (data : List Word)
    (s : State) (h : ∃ e ∈ (s.station r.station).intake, e.serial = r.serial) :
    ((answerAbout subj r res why data s).station r.station).replies =
      (s.station r.station).replies ++ [⟨some r.serial, r.tag, res, why, data⟩] := by
  obtain ⟨e, he, hs⟩ := h
  have hf : ((s.station r.station).intake.find? fun x => x.serial == r.serial).isSome := by
    rw [List.find?_isSome]; exact ⟨e, he, by simp [hs]⟩
  unfold answerAbout
  split
  · rename_i hn; rw [hn] at hf; exact absurd hf (by simp)
  · split
    · simp [State.modStation_eq]
    · rw [writeFault_station]
      split <;> simp [State.modStation_eq]

theorem answerAbout_other (subj : Option Subject) (r : OrderRef) (res : Result) (why : Reason) (data : List Word)
    (s : State) {n : Station} (h : n ≠ r.station) :
    (answerAbout subj r res why data s).station n = s.station n := by
  unfold answerAbout
  split
  · rfl
  · split
    · rw [State.modStation_eq, State.station_setStation_of_ne _ _ h]
    · rw [writeFault_station, if_neg (fun c => h c.1), State.modStation_eq, State.station_setStation_of_ne _ _ h]

theorem answer_touches (r : OrderRef) (res : Result) (why : Reason) (data : List Word) (s : State) :
    answer r res why data s = { s with stations := (answer r res why data s).stations } :=
  answerAbout_touches ..

/-- DONE and ACCEPTED write no fault record. -/
theorem answer_fault (r : OrderRef) (res : Result) (why : Reason) (data : List Word) (s : State) (n : Station)
    (h : res = .done ∨ res = .accepted) :
    ((answer r res why data s).station n).fault = (s.station n).fault := by
  have hc : ∀ code, replyFaultClass code res why = none := by
    intro code; rcases h with h | h <;> subst h <;> rfl
  unfold answer answerAbout
  split
  · rfl
  · rw [hc]
    by_cases hn : n = r.station
    · subst hn; simp [State.modStation_eq]
    · simp only [State.modStation_eq, State.station_setStation_of_ne _ _ hn]

/-! ### Checks in their order -/

theorem firstDenial_append (l k : List (Option Denial)) :
    firstDenial (l ++ k) = match firstDenial l with | some d => some d | none => firstDenial k := by
  induction l with
  | nil => rfl
  | cons x l ih => cases x with
    | none => exact ih
    | some d => rfl

/-- Checks made after others are made only once those have passed. -/
theorem judged_append (r : OrderRef) (l k : List (Option Denial)) (go : State → State) (s : State) :
    judged r (l ++ k) go s = judged r l (judged r k go) s := by
  unfold judged
  rw [firstDenial_append]
  cases firstDenial l <;> rfl

/-! ### The taking of an order -/

@[simp] theorem State.entered_station_self (s : State) (code : Byte) (o : OrderFrame) :
    (s.entered code o).station o.station = (s.station o.station).entered s.nextSerial code o .waiting := by
  show PerStation.get (PerStation.set _ _ _) _ = _; simp

theorem State.entered_station_of_ne (s : State) (code : Byte) (o : OrderFrame) {n : Station} (h : n ≠ o.station) :
    (s.entered code o).station n = s.station n := PerStation.get_set_of_ne _ _ h

/-- An order whose station is attached, whose tag is free and whose intake has room is taken and judged. -/
theorem arrive_taken (code : Byte) (o : OrderFrame) (judge : OrderRef → State → State) (s : State)
    (attached : (s.station o.station).attached = true)
    (tagFree : ∀ e ∈ (s.station o.station).intake, e.tag ≠ o.tag)
    (room : (s.station o.station).intake.length < 4) :
    arrive code o judge s = judge (s.nextRef o) (s.entered code o) := by
  have h1 : ((s.station o.station).intake.any fun e => e.tag == o.tag) = false := by
    rw [List.any_eq_false]; intro e he; simpa using tagFree e he
  have h2 : ¬ intakeCapacity ≤ (s.station o.station).intake.length := by unfold intakeCapacity; omega
  unfold arrive
  rw [attached, h1]
  simp only [Bool.not_true, Bool.false_eq_true, if_false, if_neg h2]
  congr 1
  simp only [enterIntake, State.entered, State.modStation_eq, State.station_setStation_self]
  congr 1
  simp only [State.setStation, PerStation.set_set]
  rfl

end Sys2Proof.Machine
end

