-- ==== Sys2Proof/Laws/Ends.lean ====
section
/-! SUPPORT. What a step ends with, what becomes of the frames held for want of admission, and how a taken order that is
answered at once ends: the two lemmas through which a statement about an order reaches `exec`. -/

namespace Sys2Proof.Machine

/-! ### The end of a step -/

theorem run_next (f : State → State) (s : State) : ∃ t, run f s = .next t ∧ t.pending = s.pending := by
  refine ⟨_, rfl, ?_⟩
  split <;> rfl

theorem runSupply_next (f : State → State) (s : State) : ∃ t, runSupply f s = .next t ∧ t.pending = s.pending :=
  ⟨_, rfl, rfl⟩

/-- While the part is held down a step changes nothing. -/
theorem run_held (f : State → State) (s : State) (h : s.heldDown = true) : run f s = .next s := by
  simp [run, h]

theorem run_live (f : State → State) (s : State) (h : s.heldDown = false) :
    run f s = .next { finish (f s) with pending := s.pending } := by
  simp [run, h]

/-- Every command but a supply's is a step of the running part. -/
theorem exec_runs (c : Instr) (h : supplyCommand c = false) : ∃ f, ∀ s, exec c s = run f s := by
  cases c
  case matClear => exact ⟨_, fun s => by show execMatClear s = _; unfold execMatClear; rfl⟩
  case checkByteFailed a b => exact ⟨_, fun s => by show execCheckByteFailed a b s = _; unfold execCheckByteFailed; rfl⟩
  case invalidLength a b => exact ⟨_, fun s => by show execInvalidLength a b s = _; unfold execInvalidLength; rfl⟩
  case localControlReleased a =>
    exact ⟨_, fun s => by show execLocalControlReleased a s = _; unfold execLocalControlReleased; rfl⟩
  all_goals first | exact ⟨_, fun _ => rfl⟩ | simp [supplyCommand] at h

/-- Every command of the Supply Monitor is a step of its own. -/
theorem exec_supplies (c : Instr) (h : supplyCommand c = true) : ∃ f, ∀ s, exec c s = runSupply f s := by
  cases c
  case keepAliveLoss => exact ⟨_, fun s => by show execKeepAliveLoss s = _; unfold execKeepAliveLoss; rfl⟩
  case keepAliveUp => exact ⟨_, fun s => by show execKeepAliveUp s = _; unfold execKeepAliveUp; rfl⟩
  all_goals first | exact ⟨_, fun _ => rfl⟩ | simp [supplyCommand] at h

/-- A property that neither the queue nor the clock of an idle step bears on is kept by every step once every command
keeps it. -/
theorem keptByStep_of_exec (inv : State → Prop)
    (idle : ∀ (s : State) (p : List Instr) (n : Nat), inv s → inv { s with pending := p, now := n })
    (exec_keeps : ∀ c s t, inv s → exec c s = .next t → inv t) : KeptByStep inv := by
  intro s t hs h
  unfold step at h
  split at h
  · cases h; exact idle s s.pending (s.now + 1) hs
  · exact exec_keeps _ _ _ (idle s _ s.now hs) h

theorem setLines_touches (s : State) : setLines s = { s with stations := (setLines s).stations } := rfl

theorem setLines_station (s : State) (n : Station) :
    (setLines s).station n = { s.station n with atn := lineOf s.heldDown (s.station n) } := by cases n <;> rfl

/-- Lines that stand as R158 asks are left as they are. -/
theorem setLines_of_set (s : State) (h : ∀ n, (s.station n).atn = lineOf s.heldDown (s.station n)) :
    setLines s = s := by
  have h1 := h .one
  have h2 := h .two
  have h3 := h .three
  simp only [State.station, PerStation.get] at h1 h2 h3
  unfold setLines StationRecord.setLine
  rw [← h1, ← h2, ← h3]

/-- With no freed record and no complete fence a step ends with the attention lines alone. -/
theorem finish_eq_setLines (s : State) (room : s.roomFreed = false)
    (fences : ∀ f ∈ s.fences, fenceComplete s.queue f = false) : finish s = setLines s := by
  have h1 : s.fences.filter (fenceComplete s.queue) = [] := by
    rw [List.filter_eq_nil_iff]; intro f hf; simp [fences f hf]
  have h2 : s.fences.filter (fun f => !fenceComplete s.queue f) = s.fences := by
    rw [List.filter_eq_self]; intro f hf; simp [fences f hf]
  unfold finish
  rw [room]
  simp only [Bool.false_eq_true, if_false]
  unfold completeFences
  simp only [h1, h2, List.foldl_nil]

/-- The attention lines are set again with every event the step raised. -/
theorem lineOf_setLine (held : Bool) (r : StationRecord) : lineOf held (r.setLine held) = lineOf held r := rfl

/-! ### Frames held for want of admission -/

/-- A write that is placed touches the queue alone. -/
theorem placeWrite_touches {p : Nat} {b : Binding} {fade : Int} {marks : List Nat} {s t : State}
    (h : placeWrite p b fade marks s = some t) : t = { s with queue := t.queue } := by
  unfold placeWrite at h
  split at h
  · cases h; rfl
  · split at h
    · cases h; rfl
    · cases h

@[simp] theorem placePending_awaitingRoom (p : Nat) (s : State) : (placePending p s).awaitingRoom = s.awaitingRoom := by
  unfold placePending
  split
  · rfl
  · split
    · rfl
    · dsimp only
      split
      · rfl
      · rename_i h
        show State.awaitingRoom _ = _
        simp only [State.modPoint_awaitingRoom]
        rw [placeWrite_touches h]

@[simp] theorem enterQueue_awaitingRoom (f : QueueFrame) (s : State) : (enterQueue f s).awaitingRoom = s.awaitingRoom := by
  unfold enterQueue; split <;> rfl

/-- A frame handed enters the queue, or stands last among those held. -/
theorem handFrame_awaitingRoom (f : QueueFrame) (s : State) :
    (handFrame f s).awaitingRoom = if s.queue.length < admissionLimit then s.awaitingRoom else s.awaitingRoom ++ [f] := by
  unfold handFrame; split <;> simp

/-- The frames still held are the last of those that were. -/
theorem admitHeld_awaitingRoom (l : List QueueFrame) (s : State) (h : s.awaitingRoom = l) :
    (admitHeld l s).awaitingRoom <:+ l := by
  induction l generalizing s with
  | nil => exact ⟨[], h⟩
  | cons f rest ih =>
    unfold admitHeld
    split
    · exact (ih _ (by simp)).trans (List.suffix_cons f rest)
    · exact ⟨[], h⟩

theorem useRoom_awaitingRoom (s : State) : (useRoom s).awaitingRoom <:+ s.awaitingRoom := by
  have key : ∀ (l : List Nat) (t : State), (l.foldl (fun s p => placePending p s) t).awaitingRoom = t.awaitingRoom := by
    intro l
    induction l with
    | nil => exact fun _ => rfl
    | cons p l ih => exact fun t => (ih _).trans (placePending_awaitingRoom p t)
  unfold useRoom
  rw [key]
  exact admitHeld_awaitingRoom _ s rfl

@[simp] theorem completeFences_awaitingRoom (s : State) : (completeFences s).awaitingRoom = s.awaitingRoom := by
  have key : ∀ (l : List FenceEntry) (t : State), (l.foldl answerFence t).awaitingRoom = t.awaitingRoom := by
    intro l
    induction l with
    | nil => exact fun _ => rfl
    | cons f l ih =>
      intro t
      rw [List.foldl_cons, ih]
      unfold answerFence
      rw [answer_touches]
  unfold completeFences
  rw [key]

/-- At the end of a step no frame is held that was not held before it. -/
theorem finish_awaitingRoom (s : State) : (finish s).awaitingRoom <:+ s.awaitingRoom := by
  show (completeFences _).awaitingRoom <:+ _
  rw [completeFences_awaitingRoom]
  split
  · exact useRoom_awaitingRoom s
  · exact List.suffix_rfl

theorem State.RoomLaw.of_suffix {s t : State} (h : s.RoomLaw) (sub : t.awaitingRoom <:+ s.awaitingRoom) : t.RoomLaw :=
  fun f hf => h f (sub.subset hf)

/-- A TERMINAL_WRITE or a POLL handed as it is keeps the law of held frames. -/
theorem State.RoomLaw.handFrame {s : State} (h : s.RoomLaw) (k : Fin 32) (body : FrameBody)
    (kind : body.kind = .terminalWrite ∨ body.kind = .poll) : (handFrame (QueueFrame.fresh k body) s).RoomLaw := by
  intro f hf
  rw [handFrame_awaitingRoom] at hf
  split at hf
  · exact h f hf
  · rcases List.mem_append.1 hf with hf | hf
    · exact h f hf
    · cases List.mem_singleton.1 hf; exact ⟨rfl, kind⟩

/-- So does the end of a step. -/
theorem State.RoomLaw.finish {s : State} (h : s.RoomLaw) : (finish s).RoomLaw := h.of_suffix (finish_awaitingRoom s)

/-! ### Orders -/

/-- An order the port takes is judged with its entry in the intake, and the step ends. -/
theorem run_taken (code : Byte) (o : OrderFrame) (judge : OrderRef → State → State) (s : State) (takes : s.Takes o) :
    run (arrive code o judge) s =
      .next { finish (judge (s.nextRef o) (s.entered code o)) with pending := s.pending } := by
  rw [run_live _ _ takes.running, arrive_taken _ _ _ _ takes.attached takes.tagFree takes.room]

/-- A function that leaves a list's members and turns the last one. -/
theorem map_concat_of {α : Type} (f : α → α) (l : List α) (x y : α) (h : ∀ e ∈ l, f e = e) (hx : f x = y) :
    (l ++ [x]).map f = l ++ [y] := by
  rw [List.map_append, List.map_cons, List.map_nil, hx]
  congr 1
  conv => rhs; rw [← List.map_id l]
  exact List.map_congr_left h

/-- The answer of the order just taken: its entry ANSWERED, its reply last, its fault record written. -/
theorem answer_entered (s : State) (code : Byte) (o : OrderFrame) (res : Result) (why : Reason) (data : List Word)
    (attached : (s.station o.station).attached = true)
    (numbered : ∀ e ∈ (s.station o.station).intake, e.serial < s.nextSerial) :
    answer (s.nextRef o) res why data (s.entered code o) = s.answered code o res why data := by
  have hfind : (((s.entered code o).station o.station).intake.find? fun e => e.serial == s.nextSerial) =
      some ⟨s.nextSerial, o.tag, code, o.target, o.attrs, o.words, .waiting⟩ := by
    rw [State.entered_station_self]
    unfold StationRecord.entered
    rw [List.find?_append]
    have : (s.station o.station).intake.find? (fun e => e.serial == s.nextSerial) = none := by
      rw [List.find?_eq_none]; intro e he; have := numbered e he; simp; omega
    simp [this]
  unfold answer answerAbout
  simp only [State.nextRef]
  rw [hfind]
  simp only
  rw [State.modStation_eq, State.entered_station_self]
  unfold State.answered State.faultAfter
  cases hc : replyFaultClass code res why with
  | none =>
    dsimp only [StationRecord.entered]
    rw [map_concat_of _ _ _ ⟨s.nextSerial, o.tag, code, o.target, o.attrs, o.words, .answered⟩
      (by intro e he
          have : e.serial ≠ s.nextSerial := by have := numbered e he; omega
          simp [this])
      (by simp)]
    simp only [State.entered, State.setStation, PerStation.set_set, StationRecord.entered]
  | some cls =>
    simp only [Option.getD_none]
    unfold writeFault
    rw [State.modStation_eq, State.station_setStation_self]
    have hf : ∀ t : State, t.movers = s.movers → ∀ subj, faultAbout cls why.code subj t = faultAbout cls why.code subj s := by
      intro t ht subj; unfold faultAbout; rw [ht]
    dsimp only [StationRecord.entered]
    rw [map_concat_of _ _ _ ⟨s.nextSerial, o.tag, code, o.target, o.attrs, o.words, .answered⟩
      (by intro e he
          have : e.serial ≠ s.nextSerial := by have := numbered e he; omega
          simp [this])
      (by simp),
      hf ((s.entered code o).setStation _ _) rfl]
    simp only [attached, if_true, State.entered, State.setStation, PerStation.set_set, StationRecord.entered]

theorem State.answered_station_self (s : State) (code : Byte) (o : OrderFrame) (res : Result) (why : Reason)
    (data : List Word) :
    (s.answered code o res why data).station o.station =
      { (s.station o.station).entered s.nextSerial code o .answered with
        replies := (s.station o.station).replies ++ [⟨some s.nextSerial, o.tag, res, why, data⟩]
        fault := s.faultAfter code o res why } := by
  show PerStation.get (PerStation.set _ _ _) _ = _; rw [PerStation.get_set_self]

theorem State.answered_station_of_ne (s : State) (code : Byte) (o : OrderFrame) (res : Result) (why : Reason)
    (data : List Word) {n : Station} (h : n ≠ o.station) :
    (s.answered code o res why data).station n = s.station n := PerStation.get_set_of_ne _ _ h

/-- An order answered at once, in a state `t` that differs from the one it was taken in by what the order did: the
next state is that one with the order answered and the attention lines set again. -/
theorem run_answered_lines (code : Byte) (o : OrderFrame) (judge : OrderRef → State → State) (s t : State)
    (res : Result) (why : Reason) (data : List Word) (kept : s.Kept) (takes : s.Takes o)
    (judgement : judge (s.nextRef o) (s.entered code o) = answer (t.nextRef o) res why data (t.entered code o))
    (attached : (t.station o.station).attached = true)
    (intake : (t.station o.station).intake = (s.station o.station).intake)
    (serial : t.nextSerial = s.nextSerial) (pending : t.pending = s.pending) (room : t.roomFreed = false)
    (fences : ∀ f ∈ t.fences, fenceComplete t.queue f = false) :
    run (arrive code o judge) s = .next (setLines (t.answered code o res why data)) := by
  have numbered : ∀ e ∈ (t.station o.station).intake, e.serial < t.nextSerial := by
    rw [intake, serial]; exact kept.numbered _
  rw [run_taken _ _ _ _ takes, judgement, answer_entered _ _ _ _ _ _ attached numbered,
    finish_eq_setLines (t.answered code o res why data) room fences]
  have hp : (setLines (t.answered code o res why data)).pending = s.pending := pending
  rw [← hp]

/-- The same where no status or enable set was changed: the lines stand. -/
theorem run_answered (code : Byte) (o : OrderFrame) (judge : OrderRef → State → State) (s t : State)
    (res : Result) (why : Reason) (data : List Word) (kept : s.Kept) (takes : s.Takes o)
    (judgement : judge (s.nextRef o) (s.entered code o) = answer (t.nextRef o) res why data (t.entered code o))
    (attached : (t.station o.station).attached = true)
    (intake : (t.station o.station).intake = (s.station o.station).intake)
    (serial : t.nextSerial = s.nextSerial) (pending : t.pending = s.pending) (room : t.roomFreed = false)
    (fences : ∀ f ∈ t.fences, fenceComplete t.queue f = false)
    (lines : ∀ n, (t.station n).atn = lineOf t.heldDown (t.station n)) :
    run (arrive code o judge) s = .next (t.answered code o res why data) := by
  rw [run_answered_lines code o judge s t res why data kept takes judgement attached intake serial pending room fences,
    setLines_of_set]
  intro n
  by_cases hn : n = o.station
  · subst hn; rw [State.answered_station_self]; exact lines _
  · rw [State.answered_station_of_ne _ _ _ _ _ _ hn]; exact lines n

/-- An order answered at once that changes nothing else. -/
theorem run_read (code : Byte) (o : OrderFrame) (judge : OrderRef → State → State) (s : State)
    (res : Result) (why : Reason) (data : List Word) (kept : s.Kept) (takes : s.Takes o)
    (judgement : judge (s.nextRef o) (s.entered code o) = answer (s.nextRef o) res why data (s.entered code o)) :
    run (arrive code o judge) s = .next (s.answered code o res why data) :=
  run_answered code o judge s s res why data kept takes judgement takes.attached rfl rfl rfl kept.roomUsed
    kept.fencesWait kept.linesSet

/-- An order answered at once that changes the state outside the Station Records, the queue and the fences. -/
theorem run_done (code : Byte) (o : OrderFrame) (judge : OrderRef → State → State) (s t : State)
    (res : Result) (why : Reason) (data : List Word) (kept : s.Kept) (takes : s.Takes o)
    (judgement : judge (s.nextRef o) (s.entered code o) = answer (t.nextRef o) res why data (t.entered code o))
    (stations : t.stations = s.stations) (serial : t.nextSerial = s.nextSerial) (held : t.heldDown = s.heldDown)
    (pending : t.pending = s.pending) (room : t.roomFreed = s.roomFreed) (fences : t.fences = s.fences)
    (queue : t.queue = s.queue) :
    run (arrive code o judge) s = .next (t.answered code o res why data) := by
  have hst : ∀ n, t.station n = s.station n := fun n => by simp [State.station, stations]
  refine run_answered code o judge s t res why data kept takes judgement ?_ ?_ serial pending ?_ ?_ ?_
  · rw [hst]; exact takes.attached
  · rw [hst]
  · rw [room]; exact kept.roomUsed
  · rw [fences, queue]; exact kept.fencesWait
  · intro n; rw [hst, held]; exact kept.linesSet n

/-- An order that gets no reply now: it stands WAITING in the intake. -/
theorem run_waiting (code : Byte) (o : OrderFrame) (judge : OrderRef → State → State) (s t : State) (kept : s.Kept)
    (takes : s.Takes o) (judgement : judge (s.nextRef o) (s.entered code o) = t.entered code o)
    (stations : t.stations = s.stations) (held : t.heldDown = s.heldDown)
    (pending : t.pending = s.pending) (room : t.roomFreed = false)
    (fences : ∀ f ∈ t.fences, fenceComplete t.queue f = false) :
    run (arrive code o judge) s = .next (t.entered code o) := by
  have hst : ∀ n, t.station n = s.station n := fun n => by simp [State.station, stations]
  have hl : setLines (t.entered code o) = t.entered code o := by
    apply setLines_of_set
    intro n
    have hh : (t.entered code o).heldDown = s.heldDown := held
    rw [hh]
    by_cases hn : n = o.station
    · subst hn; rw [State.entered_station_self, hst]; exact kept.linesSet _
    · rw [State.entered_station_of_ne _ _ _ hn, hst]; exact kept.linesSet n
  rw [run_taken _ _ _ _ takes, judgement, finish_eq_setLines (t.entered code o) room fences, hl]
  have hp : (t.entered code o).pending = s.pending := pending
  rw [← hp]

/-- The orders with target 0 and no operand words: BAD_TARGET, then BAD_OPERAND, then the order's own judgement. -/
theorem run_bare (code : Byte) (o : OrderFrame) (go : OrderRef → State → State) (s t : State) (kept : s.Kept)
    (takes : s.Takes o) (h : run (arrive code o go) s = .next t) :
    run (arrive code o fun r s => judged r (bareChecks o) (go r) s) s =
      .next (
        if o.target ≠ 0 then s.answered code o .refused .badTarget []
        else if o.words ≠ [] then s.answered code o .refused .badOperand []
        else t) := by
  by_cases ht : o.target = 0
  · by_cases hw : o.words = []
    · simp only [ht, hw, ne_eq, not_true, if_false]
      rw [← h, run_taken _ _ _ _ takes, run_taken _ _ _ _ takes]
      simp only [judged, bareChecks, ht, noWords, hw]
      rfl
    · simp only [ht, hw, ne_eq, not_true, not_false_iff, if_false, if_true]
      apply run_read _ _ _ _ _ _ _ kept takes
      have : o.words.isEmpty = false := by simp [hw]
      simp only [judged, bareChecks, ht, noWords, this]
      rfl
  · simp only [ht, ne_eq, not_false_iff, if_true]
    apply run_read _ _ _ _ _ _ _ kept takes
    have : (o.target != 0) = true := by simpa using ht
    simp only [judged, bareChecks, this]
    rfl

end Sys2Proof.Machine
end

