-- ==== Sys2Proof/Laws/Link.lean ====
section
/-! SUPPORT. What the confirmation of a frame and the closing of windows can do: which records leave the queue at the end
of a timely reply, which reports concern the current command, and which held entries and windows a closing changes. -/

namespace Sys2Proof.Machine

/-! ### The queue -/

theorem State.withQueue_touches (s : State) (q : List QueueFrame) :
    s.withQueue q = { s with queue := q, roomFreed := (s.withQueue q).roomFreed } := rfl

theorem State.withQueue_same (s : State) : s.withQueue s.queue = s := by
  simp [State.withQueue]

theorem dropConfirmed_touches (s : State) :
    dropConfirmed s = { s with queue := (dropConfirmed s).queue, roomFreed := (dropConfirmed s).roomFreed } := rfl

theorem mem_dropConfirmed (s : State) (f : QueueFrame) :
    f ∈ (dropConfirmed s).queue ↔ f ∈ s.queue ∧ f.stage ≠ .confirmed := by
  simp [dropConfirmed, State.withQueue]

/-- With no confirmed record in the queue nothing changes. -/
theorem dropConfirmed_of_none (s : State) (h : ∀ f ∈ s.queue, f.stage ≠ .confirmed) : dropConfirmed s = s := by
  have : (s.queue.filter fun g => g.stage != .confirmed) = s.queue :=
    List.filter_eq_self.2 fun f hf => by simpa using h f hf
  rw [dropConfirmed, this, State.withQueue_same]

/-- A record that leaves frees room. -/
theorem dropConfirmed_frees (s : State) (f : QueueFrame) (hf : f ∈ s.queue) (h : f.stage = .confirmed) :
    (dropConfirmed s).roomFreed = true := by
  have : (s.queue.filter fun g => g.stage != .confirmed).length < s.queue.length :=
    List.length_filter_lt_length_iff_exists.2 ⟨f, hf, by simp [h]⟩
  simp [dropConfirmed, State.withQueue, this]

/-! ### The score -/

/-- A timely reply of a module whose score is 3 or more halts nothing: the Module Record is all it changes (R133). -/
theorem raiseScore_of_strong (k : Fin 32) (s : State) (h : 3 ≤ (s.module k).score) :
    raiseScore k s =
      s.modModule k fun r =>
        { r with score := min scoreMax (r.score + 1), lastTimely := s.now, firstPoll := false } := by
  unfold raiseScore weakLink
  split
  · rw [if_neg]
    simp only [State.module, Fin.getElem_fin] at h
    simp [State.modModule, State.module, State.setModule, weakScore, scoreMax]
    omega
  · rfl

/-! ### The current command -/

/-- With no command frame of the mover unsent, the current one has been sent. -/
theorem State.commandSent_of_none_unsent (s : State) (m : Mover) (h : s.commandUnsent m = false) :
    s.commandSent m = true := by
  simp [State.commandSent, h]

/-- In SETTLING a report of the command number concerns the mover, whatever waits unsent (R28, R32). -/
theorem State.concerns_of_settling (s : State) (m : Mover) (command : Word) (h : (s.mover m).state = .settling)
    (hc : (s.mover m).command = some command) : s.concerns m command = true := by
  simp [State.concerns, State.commandSent, h, hc]

/-- In MOVING with the stall window running it does too (R25, R28). -/
theorem State.concerns_of_stall (s : State) (m : Mover) (command : Word) (h : (s.mover m).state = .moving)
    (hw : (s.mover m).stall.isSome = true) (hc : (s.mover m).command = some command) : s.concerns m command = true := by
  simp [State.concerns, State.commandSent, h, hw, hc]

/-! ### Windows -/

/-- The closing of CLOSED windows releases nothing and takes no mark. -/
theorem State.openMarks_of_closed (s : State) (l : List (Fin 6)) (h : ∀ i ∈ l, s.windows[i].isOpen = false) :
    s.openMarks l = 0 := by
  have : (l.filter fun i => s.windows[i].isOpen) = [] :=
    List.filter_eq_nil_iff.2 fun i hi => by simpa using h i hi
  unfold State.openMarks
  rw [this]
  rfl

theorem State.releasedBy_of_closed (s : State) (l : List (Fin 6)) (h : ∀ i ∈ l, s.windows[i].isOpen = false) :
    s.releasedBy l = [] := by
  simp [State.releasedBy, s.openMarks_of_closed l h]

/-- The entries released are held ones, in the order of the list. -/
theorem State.releasedBy_sublist (s : State) (l : List (Fin 6)) : (s.releasedBy l).Sublist s.held :=
  List.filter_sublist

end Sys2Proof.Machine
end

