-- ==== Sys2Proof/Laws/Points.lean ====
section
/-! SUPPORT. What Zone Control's writes and forces can do: they touch the Point Table and the Outbound Queue alone, add
no fence mark, free no record, and read no Station Record. -/

namespace Sys2Proof.Machine

/-! ### What a write touches -/

/-- The change is to the Point Table and the Outbound Queue, the number and kinds of points stay, and every fence is as
complete as before. -/
structure State.Writes (s t : State) : Prop where
  only   : t = { s with points := t.points, queue := t.queue }
  fences : ∀ f, fenceComplete t.queue f = fenceComplete s.queue f

theorem State.Writes.refl (s : State) : s.Writes s := ⟨rfl, fun _ => rfl⟩

theorem State.Writes.trans {s t u : State} (h : s.Writes t) (g : t.Writes u) : s.Writes u := by
  refine ⟨?_, fun f => (g.fences f).trans (h.fences f)⟩
  have := g.only
  rw [h.only] at this
  exact this

theorem State.Writes.modPoint (s : State) (p : Nat) (f : PointEntry → PointEntry) : s.Writes (s.modPoint p f) :=
  ⟨rfl, fun _ => rfl⟩

/-- A queue whose frames keep their marks leaves every fence as it was. -/
theorem fenceComplete_map (q : List QueueFrame) (g : QueueFrame → QueueFrame) (h : ∀ f, (g f).marks = f.marks)
    (e : FenceEntry) : fenceComplete (q.map g) e = fenceComplete q e := by
  unfold fenceComplete
  rw [List.any_map]
  congr 2
  induction q with
  | nil => rfl
  | cons x l ih => simp only [List.any_cons, Function.comp, h, ih]

theorem QueueFrame.withItems_marks (f : QueueFrame) (items : List Item) : (f.withItems items).marks = f.marks := by
  unfold QueueFrame.withItems; split <;> rfl

theorem takeWrite_marks (p : Nat) (b : Binding) (fade : Int) (now : Nat) (f : QueueFrame) :
    (takeWrite p b fade now f).marks = f.marks := by
  unfold takeWrite
  simp only
  split <;> simp only [QueueFrame.withItems_marks]

theorem addMarks_nil (f : QueueFrame) : (addMarks [] f).marks = f.marks := by simp [addMarks]

/-- A write that is placed without marks. -/
theorem placeWrite_writes (p : Nat) (b : Binding) (fade : Int) (s t : State) (h : placeWrite p b fade [] s = some t) :
    s.Writes t := by
  unfold placeWrite at h
  split at h
  · cases h
    refine ⟨rfl, fun e => ?_⟩
    apply fenceComplete_map
    intro f
    split
    · rw [addMarks_nil, takeWrite_marks]
    · rfl
  · split at h
    · cases h
      refine ⟨rfl, fun e => ?_⟩
      simp [fenceComplete, List.any_append, addMarks, QueueFrame.fresh]
    · cases h

theorem placeOrMark_writes (p : Nat) (e : PointEntry) (rewrite : Bool) (s : State) :
    s.Writes (placeOrMark p e rewrite s) := by
  unfold placeOrMark
  split
  · exact .refl s
  · split
    · rename_i h; exact placeWrite_writes _ _ _ _ _ h
    · exact .modPoint ..

theorem handWrite_writes (p : Nat) (rewrite : Bool) (s : State) : s.Writes (handWrite p rewrite s) := by
  unfold handWrite
  split
  · exact .refl s
  · split
    · exact .refl s
    · exact (State.Writes.modPoint ..).trans (placeOrMark_writes ..)

theorem recomputeForced_writes (p : Nat) (s : State) : s.Writes (recomputeForced p s) := by
  unfold recomputeForced
  split
  · exact .refl s
  · simp only
    split
    · exact .refl s
    · exact (State.Writes.modPoint ..).trans (handWrite_writes ..)

theorem State.Writes.foldl {α : Type} (op : State → α → State) (h : ∀ (s : State) (x : α), s.Writes (op s x)) (l : List α) (s : State) :
    s.Writes (l.foldl op s) := by
  induction l generalizing s with
  | nil => exact .refl s
  | cons x l ih => exact (h s x).trans (ih _)

/-- The evaluation of the forces writes points, and nothing else. -/
theorem evaluateForces_writes (s : State) : s.Writes (evaluateForces s) :=
  State.Writes.foldl _ (fun s p => recomputeForced_writes p s) _ s

theorem writePoint_writes (p : Nat) (level fade : Int) (w : Writer) (s : State) :
    s.Writes (writePoint p level fade w s) := by
  unfold writePoint
  split
  · exact .refl s
  · simp only
    split
    · exact (State.Writes.modPoint ..).trans (handWrite_writes ..)
    · exact .modPoint ..

theorem itemApplied_writes (p : Nat) (level : Int) (s : State) : s.Writes (itemApplied p level s) := by
  unfold itemApplied
  split
  · exact .refl s
  · simp only
    repeat' split
    all_goals first
      | exact (State.Writes.modPoint ..).trans (.modPoint ..)
      | exact ((State.Writes.modPoint ..).trans (.modPoint ..)).trans (handWrite_writes ..)

/-! ### What a write reads -/

/-- The state with other Station Records: what writes neither touch nor read. -/
def State.withPorts (s : State) (x : PerStation StationRecord) (n : Nat) : State :=
  { s with stations := x, nextSerial := n }

theorem State.entered_eq (s : State) (code : Byte) (o : OrderFrame) :
    s.entered code o = s.withPorts (s.entered code o).stations (s.nextSerial + 1) := rfl

theorem placeWrite_ports (p : Nat) (b : Binding) (fade : Int) (marks : List Nat) (s : State)
    (x : PerStation StationRecord) (n : Nat) :
    placeWrite p b fade marks (s.withPorts x n) = (placeWrite p b fade marks s).map fun t => t.withPorts x n := by
  unfold placeWrite
  show (if s.queue.any _ then _ else if s.queue.length < admissionLimit then _ else _) = _
  split
  · rfl
  · split <;> rfl

theorem placeOrMark_ports (p : Nat) (e : PointEntry) (rewrite : Bool) (s : State) (x : PerStation StationRecord)
    (n : Nat) : placeOrMark p e rewrite (s.withPorts x n) = (placeOrMark p e rewrite s).withPorts x n := by
  unfold placeOrMark
  split
  · rfl
  · have hb : (s.withPorts x n).bindingInForce e = s.bindingInForce e := rfl
    rw [hb, placeWrite_ports]
    cases placeWrite p (s.bindingInForce e) (if rewrite = true then 0 else e.lastFade) [] s <;> rfl

theorem handWrite_ports (p : Nat) (rewrite : Bool) (s : State) (x : PerStation StationRecord) (n : Nat) :
    handWrite p rewrite (s.withPorts x n) = (handWrite p rewrite s).withPorts x n := by
  unfold handWrite
  have hw : (s.withPorts x n).writable? p = s.writable? p := rfl
  rw [hw]
  cases s.writable? p with
  | none => rfl
  | some e =>
    show (if !(s.module (s.bindingInForce e).module).present then _ else _) = _
    simp only
    split
    · rfl
    · exact placeOrMark_ports p e rewrite (s.modPoint p _) x n

theorem recomputeForced_ports (p : Nat) (s : State) (x : PerStation StationRecord) (n : Nat) :
    recomputeForced p (s.withPorts x n) = (recomputeForced p s).withPorts x n := by
  unfold recomputeForced
  have hw : (s.withPorts x n).writable? p = s.writable? p := rfl
  rw [hw]
  cases s.writable? p with
  | none => rfl
  | some e =>
    have hl : (s.withPorts x n).effectiveLevel p e = s.effectiveLevel p e := rfl
    simp only [hl]
    split
    · rfl
    · exact handWrite_ports p false (s.modPoint p _) x n

theorem foldl_ports {α : Type} (op : State → α → State) (x : PerStation StationRecord) (n : Nat)
    (h : ∀ s a, op (s.withPorts x n) a = (op s a).withPorts x n) (l : List α) (s : State) :
    l.foldl op (s.withPorts x n) = (l.foldl op s).withPorts x n := by
  induction l generalizing s with
  | nil => rfl
  | cons a l ih => rw [List.foldl_cons, h, ih, List.foldl_cons]

theorem evaluateForces_ports (s : State) (x : PerStation StationRecord) (n : Nat) :
    evaluateForces (s.withPorts x n) = (evaluateForces s).withPorts x n :=
  foldl_ports _ x n (fun s p => recomputeForced_ports p s x n) _ s

theorem writePoint_ports (p : Nat) (level fade : Int) (w : Writer) (s : State) (x : PerStation StationRecord)
    (n : Nat) : writePoint p level fade w (s.withPorts x n) = (writePoint p level fade w s).withPorts x n := by
  unfold writePoint
  have hw : (s.withPorts x n).writable? p = s.writable? p := rfl
  rw [hw]
  cases s.writable? p with
  | none => rfl
  | some e =>
    have hl : ∀ e, (s.withPorts x n).effectiveLevel p e = s.effectiveLevel p e := fun _ => rfl
    have ha : (s.withPorts x n).activeForces p = s.activeForces p := rfl
    simp only [hl, ha]
    split
    · exact handWrite_ports p false (s.modPoint p _) x n
    · rfl

/-! ### With an order in the intake -/

/-- What neither touches nor reads a Station Record does the same with an order in an intake. -/
theorem entered_of_ports (op : State → State)
    (ports : ∀ (s : State) (x : PerStation StationRecord) (n : Nat), op (s.withPorts x n) = (op s).withPorts x n)
    (touches : ∀ s : State, s.Writes (op s)) (s : State) (code : Byte) (o : OrderFrame) :
    op (s.entered code o) = (op s).entered code o := by
  have h1 : (op s).stations = s.stations := by rw [(touches s).only]
  have h2 : (op s).nextSerial = s.nextSerial := by rw [(touches s).only]
  rw [State.entered_eq, ports, State.entered_eq (op s)]
  simp only [State.entered, State.setStation, State.station, h1, h2]

theorem evaluateForces_entered (s : State) (code : Byte) (o : OrderFrame) :
    evaluateForces (s.entered code o) = (evaluateForces s).entered code o :=
  entered_of_ports evaluateForces evaluateForces_ports evaluateForces_writes s code o

theorem writePoint_entered (p : Nat) (level fade : Int) (w : Writer) (s : State) (code : Byte) (o : OrderFrame) :
    writePoint p level fade w (s.entered code o) = (writePoint p level fade w s).entered code o :=
  entered_of_ports (writePoint p level fade w) (writePoint_ports p level fade w) (writePoint_writes p level fade w)
    s code o

/-- An event raised in every attached station leaves an order in an intake as it stands. -/
theorem raiseAll_entered (e : Event) (s : State) (code : Byte) (o : OrderFrame) :
    raiseAll e (s.entered code o) = (raiseAll e s).entered code o := by
  have key : ∀ (r : StationRecord) (n : Nat), (r.entered n code o .waiting).raise e = (r.raise e).entered n code o .waiting := by
    intro r n
    rw [StationRecord.raise_eq, StationRecord.raise_eq]; rfl
  unfold State.entered raiseAll State.setStation State.station
  cases o.station <;> simp only [PerStation.get, PerStation.set, key]

/-- What writes points after an event was raised leaves the intakes as they were. -/
theorem raiseAll_intake (e : Event) (s : State) (n : Station) :
    ((raiseAll e s).station n).intake = (s.station n).intake ∧
      ((raiseAll e s).station n).attached = (s.station n).attached := by
  rw [raiseAll_station, StationRecord.raise_eq]; exact ⟨rfl, rfl⟩

end Sys2Proof.Machine
end

