-- ==== Sys2Proof/Tests/Slice0.lean ====
section
/-! SUPPORT. The writer's own tests: the WellFormed smoke test, worked figures of the spec, and, for every statement
that has hypotheses, a concrete state and operands that meet them (theorem test_hyps_<statement>). -/

namespace Sys2Proof.Tests

open Sys2Proof.Machine

/-! ### Helpers -/

/-- An order frame from a station. -/
def order (n : Station) (tag : Nat) (target : Nat) (words : List Int) (attrs : Nat := 0) : OrderFrame :=
  ⟨n, BitVec.ofNat 8 tag, BitVec.ofNat 16 target, BitVec.ofNat 8 attrs, words.map Word.ofInt⟩

/-- A reply of a module with every switch open and every terminal at 0. -/
def reply (k : Nat) (seq : Nat) (kind : FrameKind) (results : List ItemResult) (drive : Option DriveReport := none) :
    FieldReply :=
  ⟨BitVec.ofNat 8 k, BitVec.ofNat 16 seq, 0, kind, results, drive, 0, Vector.replicate 16 0⟩

def attach (s : State) : State :=
  { s with stations :=
      ⟨{ s.stations.one with attached := true }, { s.stations.two with attached := true },
        { s.stations.three with attached := true }⟩ }

/-- After reset with every station attached. -/
def awake : State := attach State.reset

def every : Profile := ⟨true, true, true, true, ⟨true, true, true⟩⟩

def restingMover : MoverRecord := { MoverRecord.cold with state := .idle, valid := true }

def heldBy (n : Station) : ClaimRecord :=
  { ClaimRecord.free with holder := .station n, lease := some .rest, deadline := some 120000 }

def point (kind : PointKind) (zone module terminal : Nat) (level : Int) : PointEntry :=
  { kind := kind, zone := zone, binding := ⟨Fin.ofNat 32 module, Fin.ofNat 16 terminal⟩, requested := level,
    effective := level, confirmed := some level, delivery := .settled, writePending := false, pendingRewrite := false,
    lastWriter := .station .two, lastFade := 20 }

/-- At anchor with everything configured: station 1 holds HATCH and WINDLASS, station 2 PLATFORM; all movers rest. -/
def duty : State :=
  { awake with
    blank := false
    profiles := ⟨every, every, every⟩
    points := [point .dimmed 0 0 0 300, point .switched 0 0 1 0, point .sense 1 1 0 0]
    scenes := [⟨0, 2, [⟨0, 400, 5⟩]⟩]
    cond :=
      { awake.cond with
        mode := .anchored, latch := false, hatchClosed := true, latchMade := true, stowed := true, anchorHome := true
        seen := ⟨true, true, true⟩ }
    movers := ⟨restingMover, restingMover, restingMover⟩
    claims := ⟨heldBy .one, heldBy .two, heldBy .one⟩
    brakeApplied := true }

/-- On duty, with the hatch in a given record. -/
def hatchIn (r : MoverRecord) : State := duty.setMover .hatch r

def movingHatch : MoverRecord :=
  { restingMover with
    state := .moving, target := some 1000, travel := some 90000, stall := some 3000, poll := .waiting 25 }

def moving : State := hatchIn movingHatch

/-- On duty, with a HOLD window of station 1 over points 0 to 3. -/
def watched : State := { duty with windows := duty.windows.set 0 ⟨true, 0, 2, true⟩ }

def heldEntry : HeldEntry := ⟨0, ⟨.two, 9, 0⟩, .setPoint 0 500 0, 0, 1, 30000⟩

/-- Watched, with a SET_POINT of station 2 held. -/
def holding : State :=
  { watched with
    held := [heldEntry]
    nextHold := 1
    nextSerial := 1
    stations :=
      { watched.stations with
        two := { watched.stations.two with intake := [⟨0, 9, codeSetPoint, 0, 0, [500, 0], .waiting⟩] } } }

/-- Two forces on a dimmer, both active. -/
def forced : State :=
  { duty with
    forces := [⟨.hatchOpen, 0, 700⟩, ⟨.swimmer, 0, 900⟩]
    points := [{ point .dimmed 0 0 0 300 with effective := 900 }]
    cond := { duty.cond with hatchClosed := false, swimmer := true }
    declaration := some ⟨0, none, 31⟩ }

/-- A frame record of a module as it stands in flight. -/
def inFlight (k : Fin 32) (body : FrameBody) : QueueFrame :=
  { QueueFrame.fresh k body with stage := .inFlight 20, seq := some 0 }

/-- The part held down after main loss. -/
def down : State := { attach State.reset with heldDown := true, mainLost := true }

/-! ### What the hypotheses ask, checked by evaluation -/

def allStationsAre (p : Station → Bool) : Bool := p .one && p .two && p .three

theorem allStationsAre_iff (p : Station → Bool) : allStationsAre p = true → ∀ n, p n = true := by
  intro h n
  simp only [allStationsAre, Bool.and_eq_true] at h
  cases n <;> simp [h]

def keptCheck (s : State) : Bool :=
  s.roomFreed == false && s.fences.all (fun f => fenceComplete s.queue f == false) &&
    allStationsAre (fun n => (s.station n).atn == lineOf s.heldDown (s.station n)) &&
    allStationsAre (fun n => (s.station n).intake.all fun e => decide (e.serial < s.nextSerial)) &&
    s.fences.all (fun f => decide (f.order.serial < s.nextSerial)) &&
    (s.queue ++ s.awaitingRoom).all (fun f => f.marks.all fun x => decide (x < s.nextSerial)) &&
    s.awaitingRoom.all (fun f =>
      f == QueueFrame.fresh f.module f.body && (f.body.kind == .terminalWrite || f.body.kind == .poll))

theorem kept_of_check (s : State) (h : keptCheck s = true) : s.Kept := by
  simp only [keptCheck, Bool.and_eq_true, beq_iff_eq, List.all_eq_true, decide_eq_true_eq] at h
  obtain ⟨⟨⟨⟨⟨⟨h1, h2⟩, h3⟩, h4⟩, h5⟩, h6⟩, h7⟩ := h
  refine ⟨h1, h2, fun n => ?_, fun n e he => ?_, h5, h6, fun f hf => by simpa using h7 f hf⟩
  · simpa using allStationsAre_iff _ h3 n
  · have := allStationsAre_iff _ h4 n
    simp only [List.all_eq_true, decide_eq_true_eq] at this
    exact this e he

/-- A state that agrees with a Kept one on all that Kept reads is Kept. -/
theorem kept_like {s : State} (t : State) (h : s.Kept)
    (e : (t.roomFreed, t.fences, t.queue, t.awaitingRoom, t.stations, t.heldDown, t.nextSerial) =
      (s.roomFreed, s.fences, s.queue, s.awaitingRoom, s.stations, s.heldDown, s.nextSerial)) : t.Kept := by
  simp only [Prod.mk.injEq] at e
  obtain ⟨e1, e2, e3, e4, e5, e6, e7⟩ := e
  exact
    { roomUsed := by rw [e1]; exact h.roomUsed
      fencesWait := by rw [e2, e3]; exact h.fencesWait
      linesSet := by unfold State.station; rw [e5, e6]; exact h.linesSet
      numbered := by unfold State.station; rw [e5, e7]; exact h.numbered
      fencesOld := by rw [e2, e7]; exact h.fencesOld
      marksOld := by rw [e3, e4, e7]; exact h.marksOld
      roomFresh := by unfold State.RoomLaw; rw [e4]; exact h.roomFresh }

def takesCheck (s : State) (o : OrderFrame) : Bool :=
  s.heldDown == false && (s.station o.station).attached == true &&
    (s.station o.station).intake.all (fun e => e.tag != o.tag) && decide ((s.station o.station).intake.length < 4)

theorem takes_of_check (s : State) (o : OrderFrame) (h : takesCheck s o = true) : s.Takes o := by
  simp only [takesCheck, Bool.and_eq_true, beq_iff_eq, List.all_eq_true, bne_iff_ne, decide_eq_true_eq] at h
  obtain ⟨⟨⟨h1, h2⟩, h3⟩, h4⟩ := h
  exact ⟨h1, h2, h3, h4⟩

theorem meets (s : State) (o : OrderFrame) (h : (keptCheck s && takesCheck s o) = true) : s.Kept ∧ s.Takes o := by
  rw [Bool.and_eq_true] at h
  exact ⟨kept_of_check s h.1, takes_of_check s o h.2⟩

theorem meet (s : State) (l : List OrderFrame) (h : (l.all fun o => keptCheck s && takesCheck s o) = true) :
    ∀ o ∈ l, s.Kept ∧ s.Takes o := by
  intro o ho
  rw [List.all_eq_true] at h
  exact meets s o (h o ho)

/-- The profiles with none of an authority for station 1. -/
def without (p : Profile) : State := { duty with profiles := ⟨p, every, every⟩ }

/-- A configured point stands in the table. -/
theorem mem_of_point (s : State) (p : Nat) (e : PointEntry) (h : s.point? p = some e) : e ∈ s.points := by
  unfold State.point? at h
  split at h
  · rename_i x hx
    split at h
    · exact absurd h (by simp)
    · cases h; exact List.mem_of_getElem? hx
  · exact absurd h (by simp)

theorem duty_kept : duty.Kept := kept_of_check _ (by decide)

theorem takes (n : Station) (tag target : Nat) (words : List Int) (attrs : Nat)
    (h : takesCheck duty (order n tag target words attrs) = true) : duty.Takes (order n tag target words attrs) :=
  takes_of_check _ _ h

theorem duty_claims : duty.ClaimLaw := by
  intro m
  cases m <;> exact ⟨by decide, fun n => by cases n <;> decide, by decide, by decide⟩

theorem duty_spares : duty.SpareLaw :=
  ⟨by decide, by decide, fun e he => absurd he (by simp [duty, awake, attach, State.reset]),
    fun e he => absurd he (by simp [duty, awake, attach, State.reset])⟩

theorem duty_apart : duty.OneMoverEach := fun a b => by cases a <;> cases b <;> decide

/-- Eighteen records of the queue taken and two frames held for want of admission. -/
def crowdedBus : State :=
  { duty with
    queue := List.replicate 18 (QueueFrame.fresh 3 (.poll false false))
    awaitingRoom := [QueueFrame.fresh 29 (.poll true false), QueueFrame.fresh 3 (.terminalWrite 2 5 ⟨.one, 9, 0⟩)] }

theorem crowdedBus_room : crowdedBus.RoomLaw := by unfold State.RoomLaw; decide

/-- On duty, the hatch in a given record under command 5, with a routine poll of its module in flight. -/
def polledHatch (r : MoverRecord) : State :=
  { hatchIn { r with command := some 5 } with queue := [inFlight 29 (.poll false false)] }

/-- The reply to that poll, with a drive report about command 5. -/
def hatchReport (status : DriveStatus) (position : Option Int) (switches : Nat := 0) : FieldReply :=
  { reply 29 0 .poll [] (some ⟨status, 5, position.map Word.ofInt⟩) with switches := BitVec.ofNat 16 switches }

theorem polledHatch_brings (r : MoverRecord) (status : DriveStatus) (position : Option Int) (switches : Nat) :
    (polledHatch r).Brings .hatch (hatchReport status position switches) ⟨status, 5, position.map Word.ofInt⟩ :=
  { answers := ⟨rfl, rfl, rfl⟩, apart := duty_apart, strong := by exact (by decide : 3 ≤ (duty.module 29).score),
    drive := rfl, answered := .inl ⟨_, rfl, false, rfl⟩ }

theorem polledHatch_room (r : MoverRecord) : (polledHatch r).RoomLaw := fun _ h => absurd h List.not_mem_nil

/-- A hatch record in a homing that has counted a travel up to a report of 400. -/
def homingHatch (total : Int) (recovery : Bool) : MoverRecord :=
  { movingHatch with
    state := .homing, valid := false, target := some 0, travel := none, recovery := recovery
    attempts := if recovery then 4 else 0, homingTravel := some ⟨total, some 400⟩ }

/-- The order of a station's one intake entry, with the number 0. -/
def owing (s : State) : State :=
  { s with
    nextSerial := 1
    stations := { s.stations with one := { s.stations.one with intake := [⟨0, 8, codeMove, 0, 4, [1000], .waiting⟩] } } }

/-- The name of that order. -/
def owed : OrderRef := ⟨.one, 8, 0⟩

theorem owing_awaits (s : State) : (owing s).Awaits owed := ⟨_, List.mem_cons_self, rfl⟩

theorem owing_kept : (owing duty).Kept := kept_of_check _ (by decide)

/-- A record in RECOVERING, its halt frame confirmed or not, its link lost or not, its deferred reply owed. -/
def recovering (confirmed lost : Bool) : MoverRecord :=
  { restingMover with
    state := .recovering, target := some 1000, attempts := 1, position := 300, linkLost := lost, deferred := some owed
    pause := some ⟨2000, false, confirmed⟩ }

/-- The records a halt request finds: in motion, and in RECOVERING in each way. -/
def haltable : List MoverRecord := [movingHatch, recovering false false, recovering true false, recovering true true]

theorem holding_held : holding.HeldLaw := by unfold State.HeldLaw; decide

/-- Held by the one mark: a SET_POINT and a RECALL_SCENE that are applied at their release, a level the point no longer
takes, a point that is none, and a scene without a record. -/
def releasing : State :=
  let entry := fun (k : Nat) (what : HeldOrder) => ({ heldEntry with
    hold := BitVec.ofNat 8 k, order := ⟨.two, BitVec.ofNat 8 (9 + k), k⟩, what := what } : HeldEntry)
  let taken := fun (k : Nat) (code : Byte) => (⟨k, BitVec.ofNat 8 (9 + k), code, 0, 0, [], .waiting⟩ : IntakeEntry)
  { watched with
    nextSerial := 5
    nextHold := 5
    stations :=
      { watched.stations with
        two := { watched.stations.two with
          intake := [taken 0 codeSetPoint, taken 1 codeRecallScene, taken 2 codeSetPoint, taken 3 codeSetPoint] } }
    held := [entry 0 (.setPoint 0 500 600), entry 1 (.recall 0 2), entry 2 (.setPoint 0 1001 0),
      entry 3 (.setPoint 2 0 0), { entry 4 (.recall 0 7) with order := ⟨.three, 9, 4⟩ }] }

theorem releasing_inWords : ∀ h ∈ releasing.held, h.what.InWords := by
  simp [releasing, HeldOrder.InWords]

/-! ### WellFormed: a term for each check, which the check refuses -/

theorem test_wf_order_too_long : (Instr.setPoint (order .one 1 0 (List.replicate 25 0))).wf = false := by decide
theorem test_wf_order_longest : (Instr.setPoint (order .one 1 0 (List.replicate 24 0))).wf = true := by decide
theorem test_wf_unknown_order_known_code : (Instr.unknownOrder codeSetPoint (order .one 1 0 [])).wf = false := by decide
theorem test_wf_unknown_order_too_long : (Instr.unknownOrder 0x7F (order .one 1 0 (List.replicate 25 0))).wf = false := by
  decide
theorem test_wf_check_byte_right : (Instr.checkByteFailed .one [5, 0, 0x14, 0, 0, 0, 0xE7]).wf = false := by decide
theorem test_wf_check_byte_short : (Instr.checkByteFailed .one [5, 0, 0x14, 0, 0, 0]).wf = false := by decide
theorem test_wf_check_byte_length : (Instr.checkByteFailed .one [4, 0, 0x14, 0, 0, 0]).wf = false := by decide
theorem test_wf_stray_start_byte : (Instr.strayByte .one 0xA5).wf = false := by decide
theorem test_wf_valid_length : (Instr.invalidLength .one 5).wf = false := by decide
theorem test_wf_reply_no_module : (Instr.timelyReply (reply 32 0 .poll [])).wf = false := by decide
theorem test_wf_reply_results : (Instr.timelyReply (reply 31 0 .poll [.applied])).wf = false := by decide
theorem test_wf_late_reply_results : (Instr.lateReply (reply 31 0 .levels [])).wf = false := by decide

/-! ### Worked figures of the spec -/

/-- spec/09, 9.2: the order frame of SET_POINT 130, tag 7, level 500, fade 30. -/
theorem test_order_frame_of_set_point :
    orderBytes codeSetPoint (order .two 7 130 [500, 30]) =
      [0x09, 0x07, 0x02, 0x00, 0x82, 0x00, 0x01, 0xF4, 0x00, 0x1E, 0x59] := by decide

/-- The same bytes read back. -/
theorem test_order_frame_read :
    parseOrder .two [0x09, 0x07, 0x02, 0x00, 0x82, 0x00, 0x01, 0xF4, 0x00, 0x1E, 0x59] =
      some (codeSetPoint, order .two 7 130 [500, 30]) := by decide

/-- spec/09, 9.2: the reply frame DONE with the data word 500. -/
theorem test_reply_frame_of_set_point :
    replyBytes ⟨some 0, 7, .done, .noReason, [500]⟩ = [0x5A, 0x05, 0x07, 0x00, 0x00, 0x01, 0xF4, 0xFF] := by decide

/-- A command at the front of the queue is taken, and the empty queue idles. -/
theorem test_step_takes_front :
    step { awake with pending := [.matOccupied, .frameSend] } =
      exec .matOccupied { awake with pending := [.frameSend] } := by rfl

theorem test_step_idles : step awake = .next { awake with now := 1 } := by rfl

/-- No row of the table gives bits: no word spells a command. -/
theorem test_no_word_decodes : decodeTableWord 16 0x1234 = none := by decide

theorem test_fetch_word_unchanged : State.reset.withFetchWord 16 0x1234 = State.reset := by rfl

/-- READ_CONDITIONS after reset: SETUP, latch set, loops closed, switches not yet seen (R101, R103). -/
theorem test_read_conditions_at_reset :
    conditionWords State.reset = [3, 0, 1, 0, 0, 0, 0, -1, -1, -1, -1, -1, -1] := by decide

/-- spec/12, 12.1: the windows of the gateway have indices 4 and 5, and base 128 with width 2 spans 128 to 131. -/
theorem test_window_span :
    windowIndex .three false = 4 ∧ (Window.mk true 128 2 true).covers 131 = true ∧
      (Window.mk true 128 2 true).covers 132 = false := by decide

/-- The state after a command. -/
def after (c : Instr) (s : State) : State :=
  match exec c s with
  | .next t => t
  | .fault _ | .refused _ => s

/-- spec/01, 1.5: a dimmer at 300 under a force of 1000 that becomes active as the hatch's closed switch opens. -/
theorem test_dimmer_under_a_force :
    let s := { duty with forces := [⟨.hatchOpen, 0, 1000⟩] }
    let t := after (.lateReply (reply 29 0 .poll [])) s
    (t.point? 0).map (fun e => (e.requested, e.effective, e.confirmed, e.delivery, e.lastWriter, e.lastFade)) =
      some (300, 1000, some 300, .queued, .force, 0) := by decide

/-- R30: a hatch that homes and reports 700, 400 and 100 has moved 600, within its allowance of 1250. -/
theorem test_homing_counts_between_reports :
    let s := polledHatch { homingHatch 0 false with homingTravel := some ⟨0, none⟩ }
    let ask := fun (s : State) => { s with queue := [inFlight 29 (.poll false false)] }
    let t := [700, 400, 100].foldl (fun s p => ask (after (.timelyReply (hatchReport .running (some p))) s)) s
    ((t.mover .hatch).state, (t.mover .hatch).homingTravel) = (.homing, some ⟨600, some 100⟩) := by decide

/-- R28, R32: a hatch settles on its old DRIVE's STOPPED while a retarget's DRIVE waits unsent; its later STALLED under the
old number faults it. -/
theorem test_settling_fault_before_the_retarget_is_sent :
    let s := polledHatch { movingHatch with state := .settling, position := 1000, settle := some 500 }
    let waiting := { s with queue := s.queue ++ [QueueFrame.fresh 29 (.drive .hatch 995 5)] }
    let t := after (.timelyReply (hatchReport .stalled (some 1000))) waiting
    ((t.mover .hatch).state, (t.mover .hatch).lastFault, t.commandUnsent .hatch) = (.faulted, .stall, false) := by decide

/-- R110: the numbers 255 and 0 in use, counting from 255 gives 1. -/
theorem test_hold_number_wraps : freeHold [255, 0] 2 255 = 1 := by decide

/-- R116: a detaching station's windows close together, and the entries are released oldest first: the one of window 1
before the younger one of window 0. -/
theorem test_detach_releases_oldest_first :
    let held := fun (i : Nat) (marks : BitVec 6) => ({ heldEntry with
      hold := BitVec.ofNat 8 i, order := ⟨.two, BitVec.ofNat 8 (9 + i), i⟩, marks := marks } : HeldEntry)
    let s := { watched with
      windows := watched.windows.set 1 ⟨true, 0, 2, true⟩, held := [held 0 2, held 1 1], nextHold := 2, nextSerial := 2
      stations := { watched.stations with
        two := { watched.stations.two with
          intake := [⟨0, 9, codeSetPoint, 0, 0, [500, 0], .waiting⟩, ⟨1, 10, codeSetPoint, 0, 0, [500, 0], .waiting⟩] } } }
    ((after (.stationDetach .one) s).station .two).replies.map (fun p => p.serial) = [some 0, some 1] := by decide

/-- spec/07, 7.8: a second write of the point changes the fade of the item that waits, by case (a) of R122. -/
theorem test_merge_into_open_frame :
    let t := after (.setPoint (order .two 2 0 [700, 20])) (after (.setPoint (order .two 1 0 [600, 10])) duty)
    t.queue.map (fun f => (f.isOpen, f.mergeAt, f.items)) = [(true, 40, [⟨0, ⟨0, 0⟩, 20, none, .live⟩])] := by decide

/-- spec/06, A Deck Flood Held Under the Bridge's Window: the words LIST_HELD gives of a held SET_POINT 66 of station 2 with the mark of window 0. -/
theorem test_list_held_words :
    heldWords ⟨0, ⟨.two, 9, 0⟩, .setPoint 66 1000 0, 0, 1, 30000⟩ = [0x0002, 0x0201, 66] := by decide

/-- spec/12, 12.2: the SUPPLY fault record of a windlass that lost its supply in motion at 340. -/
theorem test_supply_fault_words :
    faultWords ⟨.supply, BitVec.ofNat 8 FaultCode.powerLostInMotion.code, .mover, 2, false, 340⟩ = [4, 7, 1, 2, 0, 340] := by
  decide

/-- spec/12, 12.1: RENEW of an ATTENDED lease answers 2 and 15. -/
theorem test_renew_words : leaseWords { heldBy .three with lease := some .attended } = [2, 15] := by decide

/-- spec/11, 11.1 and 11.2: main loss in a motion keeps the mover ACTIVE with its holder. -/
theorem test_main_loss_keeps_the_motion :
    let t := after .mainLoss moving
    t.heldDown = true ∧ t.keep.valid = true ∧ t.keep.movers.hatch = ⟨true, 0, true, none, .station .one⟩ := by decide

/-! ### Hypotheses: the block -/

theorem test_hyps_StepTakesTheFrontCommand : State.reset.pending = [] := by decide

theorem test_hyps_EveryCommandAnswersNext :
    down.heldDown = true ∧ supplyCommand .frameSend = false ∧ supplyCommand (.stationAttach .one) = false := by decide

/-! ### Hypotheses: orders that ask nothing but to be taken -/

theorem test_hyps_taken_orders (target : Nat) (words : List Int) :
    duty.Kept ∧ duty.Takes (order .one 1 target words) :=
  ⟨duty_kept, rfl, rfl, fun _ he => absurd he List.not_mem_nil, Nat.zero_lt_succ 3⟩

theorem test_hyps_ReadPointAnswersTheEntry :
    duty.Kept ∧ duty.Takes (order .one 1 2 []) ∧ (duty.point? 2).isSome = true ∧ duty.point? 3 = none :=
  ⟨duty_kept, takes _ _ _ _ _ (by decide), by decide, by decide⟩

theorem test_hyps_ReadConditionsAndReadModule :
    duty.Kept ∧ duty.Takes (order .one 1 0 []) ∧ duty.Takes (order .one 1 31 []) ∧ duty.Takes (order .one 1 32 []) :=
  ⟨duty_kept, takes _ _ _ _ _ (by decide), takes _ _ _ _ _ (by decide), takes _ _ _ _ _ (by decide)⟩

theorem test_hyps_ListHeldAnswersTheList : holding.Kept ∧ holding.Takes (order .one 1 0 [0]) :=
  ⟨kept_of_check _ (by decide), takes_of_check _ _ (by decide)⟩

theorem test_hyps_ReadEventsAndReadFault : duty.Kept ∧ duty.Takes (order .one 1 0 []) := test_hyps_taken_orders 0 []

theorem test_hyps_AckEventsAndSetEnables : duty.Kept ∧ duty.Takes (order .one 1 0 [-1, 127]) :=
  test_hyps_taken_orders 0 [-1, 127]

theorem test_hyps_ReadyAndResetMover : duty.Kept ∧ duty.Takes (order .one 1 2 []) := test_hyps_taken_orders 2 []

theorem test_hyps_RenewAndClaim :
    duty.Kept ∧ duty.ClaimLaw ∧ duty.Takes (order .one 1 2 []) ∧ duty.Takes (order .three 1 1 [] 4) :=
  ⟨duty_kept, duty_claims, takes _ _ _ _ _ (by decide), takes _ _ _ _ _ (by decide)⟩

theorem test_hyps_ClearEstopAndClearSwimmer : duty.Kept ∧ duty.Takes (order .one 1 0 []) := test_hyps_taken_orders 0 []

/-! ### Hypotheses: the port link -/

def crowded : State :=
  { awake with
    nextSerial := 4
    stations :=
      { awake.stations with
        one :=
          { awake.stations.one with
            intake :=
              [⟨0, 1, 0x77, 0, 0, [], .waiting⟩, ⟨1, 2, 0x77, 0, 0, [], .waiting⟩, ⟨2, 3, 0x77, 0, 0, [], .waiting⟩,
               ⟨3, 4, 0x77, 0, 0, [], .answered⟩]
            replies := [⟨none, 1, .refused, .tagInUse, []⟩, ⟨some 3, 4, .refused, .unknownOrder, []⟩] } } }

theorem test_hyps_ArrivalsAreRefused :
    crowded.Kept ∧ crowded.heldDown = false ∧ (crowded.station .one).attached = true ∧
      (∃ e ∈ (crowded.station .one).intake, e.tag = (order .one 4 0 []).tag) ∧
      (¬∃ e ∈ (crowded.station .one).intake, e.tag = (order .one 5 0 []).tag) ∧
      4 ≤ (crowded.station .one).intake.length ∧
      (∃ mk ∈ orderCommands, (.readPoint (order .one 4 0 []) : Instr) = mk (order .one 4 0 [])) ∧
      (∃ p rest, (crowded.station .one).replies = p :: rest ∧ p.serial = none) ∧
      duty.Kept ∧ duty.Takes (order .one 1 0 []) ∧ orderCodes.contains 0x72 = false :=
  ⟨kept_of_check _ (by decide), by decide, by decide, by decide, by decide, by decide,
    ⟨.readPoint, by simp [orderCommands], rfl⟩, ⟨_, _, rfl, rfl⟩, duty_kept, takes _ _ _ _ _ (by decide), by decide⟩

theorem test_hyps_ReplySentEndsTheOrder :
    let s := crowded.setStation .one
      { crowded.stations.one with replies := [⟨some 3, 4, .refused, .unknownOrder, []⟩] }
    s.Kept ∧ s.heldDown = false ∧ ∃ p rest, (s.station .one).replies = p :: rest ∧ p.serial = some 3 :=
  ⟨kept_of_check _ (by decide), by decide, _, _, rfl, rfl⟩

/-- Invalid lengths next to the valid range 5 to 53, and the odd rule. -/
theorem test_hyps_FrameErrorsLeaveThePortHunting :
    let receiving := awake.setStation .one { awake.stations.one with receiver := .assembling [5, 1] }
    receiving.Kept ∧ receiving.heldDown = false ∧ (receiving.station .one).receiver ≠ .hunting ∧
      awake.Kept ∧ awake.heldDown = false ∧ failedFrame [5, 0, 0x14, 0, 0, 0, 0xE8] = true ∧
      (0xA4 : Byte) ≠ 0xA5 ∧ (awake.station .one).receiver = .hunting ∧
      ∀ b ∈ [(3 : Byte), 4, 6, 54, 55], ¬(b.toNat % 2 = 1 ∧ 5 ≤ b.toNat ∧ b.toNat ≤ 53) :=
  ⟨kept_of_check _ (by decide), by decide, by decide, kept_of_check _ (by decide), by decide⟩

/-! ### Hypotheses: conditions -/

theorem test_hyps_SetSwimmerSetsTheFlag :
    (duty.Kept ∧ duty.Takes (order .one 1 0 []) ∧
      ∀ m, m ≠ .hatch → (duty.mover m).attended = true ∨ isMotionOrRecovering (duty.mover m).state = false) ∧
    (duty.Takes (order .one 1 0 []) ∧ duty.cond.mode ≠ .underway ∧ duty.cond.swimmer = false) :=
  ⟨⟨duty_kept, takes _ _ _ _ _ (by decide), fun m => by cases m <;> decide⟩, takes _ _ _ _ _ (by decide), by decide⟩

/-- The platform in each of these states, unattended, under a claim of station 2. -/
theorem test_hyps_SetSwimmerSetsTheFlag_halts :
    let s := fun r => owing (duty.setMover .platform r)
    (∀ r, (s r).Takes (order .two 1 0 []) ∧ (s r).Awaits owed) ∧
      ∀ r ∈ haltable, (s r).cond.mode ≠ .underway ∧ (s r).cond.swimmer = false ∧
        ((s r).mover .platform).attended = false ∧ isMotionOrRecovering ((s r).mover .platform).state = true ∧
        ((s r).claim .platform).holder = .station .two ∧ ((s r).claim .platform).ending = .notEnding :=
  ⟨fun _ => ⟨takes_of_check _ _ rfl, owing_awaits _⟩, by decide⟩

/-- A change to UNDERWAY, one to SETUP by the only holder, and SET_MODE to the present mode. -/
theorem test_hyps_SetModeEntersTheMode :
    let alone := { duty with claims := ⟨heldBy .one, .free, heldBy .one⟩ }
    alone.Kept ∧ alone.Takes (order .one 1 0 [2]) ∧ alone.Takes (order .one 1 0 [3]) ∧
      (2 : Word).toNat = VesselMode.underway.code ∧ (3 : Word).toNat = VesselMode.setup.code ∧
      (1 : Word).toNat = alone.cond.mode.code ∧
      (alone.profile .one).mode = true ∧ alone.blank = false ∧ (∀ m, isActive (alone.mover m).state = false) ∧
      ((alone.movers.hatch.state = .idle ∧ alone.movers.hatch.valid = true ∧ -5 ≤ alone.movers.hatch.position ∧
          alone.movers.hatch.position ≤ 5 ∧ alone.seenMade .hatch alone.cond.latchMade = true) ∧
        (alone.movers.platform.state = .idle ∧ alone.movers.platform.valid = true ∧
          -5 ≤ alone.movers.platform.position ∧ alone.movers.platform.position ≤ 5) ∧
        alone.seenMade .windlass alone.cond.anchorHome = true ∧ alone.cond.swimmer = false) ∧
      ∀ m n, (alone.claim m).holder = .station n → n = .one :=
  ⟨kept_of_check _ (by decide), takes_of_check _ _ (by decide), takes_of_check _ _ (by decide), by decide, by decide,
    by decide, by decide, by decide, fun m => by cases m <;> decide, by decide,
    fun m n => by cases m <;> cases n <;> decide⟩

/-- Each refusal of SET_MODE with what passes before it: the values past the last mode, a blank store, an active mover, and
of UNDERWAY a hatch just past its home, a platform, the anchor and a swimmer. -/
theorem test_hyps_SetModeEntersTheMode_refusals :
    let plain := { duty with profiles := ⟨⟨false, true, true, true, ⟨true, true, true⟩⟩, every, every⟩ }
    let blank := { duty with blank := true }
    let ajar := hatchIn { restingMover with position := 6 }
    let out := duty.setMover .platform { restingMover with position := -6 }
    let adrift := { duty with cond := { duty.cond with anchorHome := false } }
    let swum := { duty with cond := { duty.cond with swimmer := true } }
    (duty.Kept ∧ duty.Takes (order .one 1 1 [0]) ∧ duty.Takes (order .one 1 0 []) ∧ duty.Takes (order .one 1 0 [4])) ∧
    (plain.Kept ∧ plain.Takes (order .one 1 0 [2]) ∧ (plain.profile .one).mode = false) ∧
    (blank.Kept ∧ blank.Takes (order .one 1 0 [2]) ∧ blank.blank = true ∧ VesselMode.underway ≠ .setup) ∧
    (moving.Kept ∧ moving.Takes (order .one 1 0 [2]) ∧ moving.blank = false ∧ moving.cond.mode ≠ .underway ∧
      isActive (moving.mover .hatch).state = true) ∧
    (ajar.Kept ∧ ajar.Takes (order .one 1 0 [2]) ∧ ¬ajar.movers.hatch.position ≤ 5 ∧
      (∀ m, isActive (ajar.mover m).state = false)) ∧
    (out.Kept ∧ out.Takes (order .one 1 0 [2]) ∧ ¬-5 ≤ out.movers.platform.position) ∧
    (adrift.Kept ∧ adrift.Takes (order .one 1 0 [2]) ∧ adrift.seenMade .windlass adrift.cond.anchorHome = false) ∧
    (swum.Kept ∧ swum.Takes (order .one 1 0 [2]) ∧ swum.cond.swimmer = true) ∧
    (duty.Takes (order .one 1 0 [3]) ∧ (duty.claim .platform).holder = .station .two ∧
      (duty.claim .hatch).holder = .station .one) :=
  ⟨⟨duty_kept, takes _ _ _ _ _ (by decide), takes _ _ _ _ _ (by decide), takes _ _ _ _ _ (by decide)⟩,
    ⟨kept_of_check _ (by decide), takes_of_check _ _ (by decide), by decide⟩,
    ⟨kept_of_check _ (by decide), takes_of_check _ _ (by decide), by decide⟩,
    ⟨kept_of_check _ (by decide), takes_of_check _ _ (by decide), by decide⟩,
    ⟨kept_of_check _ (by decide), takes_of_check _ _ (by decide), by decide, fun m => by cases m <;> decide⟩,
    ⟨kept_of_check _ (by decide), takes_of_check _ _ (by decide), by decide⟩,
    ⟨kept_of_check _ (by decide), takes_of_check _ _ (by decide), by decide⟩,
    ⟨kept_of_check _ (by decide), takes_of_check _ _ (by decide), by decide⟩, takes _ _ _ _ _ (by decide), by decide⟩

theorem test_hyps_LoopsAndMatAreKept :
    (duty.Kept ∧ duty.heldDown = false ∧ ∀ m, isMotionOrRecovering (duty.mover m).state = false) ∧
    (moving.heldDown = false ∧ moving.loopIsOpen .bow = false ∧ moving.cond.latch = false ∧
      isMotion (moving.mover .hatch).state = true) :=
  ⟨⟨duty_kept, by decide, fun m => by cases m <;> decide⟩, by decide⟩

/-- The same, with a loop that opens and a mat that is trodden on. -/
theorem test_hyps_LoopsAndMatAreKept_halts :
    let s := fun r => owing (duty.setMover .platform r)
    (∀ r, (s r).Awaits owed) ∧
      ∀ r ∈ haltable, (s r).heldDown = false ∧ (s r).loopIsOpen .garage = false ∧ (s r).cond.latch = false ∧
        (s r).cond.matOccupied = false ∧ (s r).cond.swimmer = false ∧ ((s r).mover .platform).attended = false ∧
        isMotionOrRecovering ((s r).mover .platform).state = true ∧ ((s r).claim .platform).holder = .station .two ∧
        ((s r).claim .platform).ending = .notEnding :=
  ⟨fun _ => owing_awaits _, by decide⟩

/-! ### Hypotheses: points, scenes and windows -/

theorem test_hyps_WriteSetsTheLevels :
    (∃ e, duty.writable? 0 = some e) ∧ duty.activeForces 0 = [] ∧
      { duty with forces := [⟨.moverActive, 0, 1⟩, ⟨.hatchOpen, 0, 9⟩], cond := { duty.cond with hatchClosed := false } }.activeForces
        0 = [9] :=
  ⟨⟨_, rfl⟩, by decide, by decide⟩

/-- A force whose level the point's kind takes, and one of 1000 on the same point once it is a CLIMATE point. -/
theorem test_hyps_WriteSetsTheLevels_forces :
    let s := { forced with points := [{ point .climate 0 0 0 200 with kind := .climate }] }
    (∃ e, duty.point? 0 = some e) ∧ forced.activeForces 0 = [700, 900] ∧ s.activeForces 0 = [] ∧
      { s with forces := [⟨.hatchOpen, 0, 320⟩, ⟨.hatchOpen, 0, 321⟩] }.activeForces 0 = [320] :=
  ⟨⟨_, rfl⟩, by decide⟩

/-- A write that is not handed; one for each case of R122, of (b) with a sixth and a seventh item in the frame; one that
finds the mark; one on an ABSENT module. -/
theorem test_hyps_WriteSetsTheLevels_placement :
    let frame := fun n : Nat =>
      ({ QueueFrame.fresh 0 (.levels (List.replicate n ⟨1, ⟨0, 1⟩, 0, none, .live⟩)) with isOpen := true } : QueueFrame)
    let mine := { QueueFrame.fresh 0 (.levels [⟨0, ⟨0, 0⟩, 9, none, .live⟩]) with isOpen := true }
    let with_ := fun q : List QueueFrame => ({ duty with queue := q } : State)
    let full := with_ (List.replicate 18 (QueueFrame.fresh 3 (.poll false false)))
    let marked := duty.modPoint 0 fun e => { e with writePending := true }
    let gone := { duty with modules := duty.modules.set 0 { duty.module 0 with present := false } }
    (∃ e, forced.writable? 0 = some e ∧ largestOr 500 (forced.activeForces 0) = e.effective ∧
      forced.activeForces 0 ≠ [] ∧ e.delivery ≠ .faulted) ∧
    (∃ e, duty.writable? 0 = some e ∧ duty.bindingInForce e = ⟨0, 0⟩ ∧ (duty.module 0).present = true ∧
      duty.activeForces 0 = [] ∧ e.writePending = false ∧ e.delivery = .settled) ∧
    (∃ e, (with_ [mine]).writable? 0 = some e) ∧ (frame 6).items.length + 1 = 7 ∧ (frame 7).items.length + 1 = 8 ∧
    (∃ e, (with_ [frame 7]).writable? 0 = some e) ∧
    (full.queue.length = 18 ∧ ∀ f ∈ full.queue, ¬(f.module = 0 ∧ f.isOpen = true)) ∧
    (∃ e, marked.writable? 0 = some e ∧ e.writePending = true) ∧ (gone.module 0).present = false :=
  ⟨⟨_, rfl, by decide⟩, ⟨_, rfl, by decide⟩, ⟨_, rfl⟩, by decide, by decide, ⟨_, rfl⟩, by decide, ⟨_, rfl, by decide⟩,
    by decide⟩

/-- With a window of the orderer's own, and at the last fade. -/
theorem test_hyps_SetPointIsApplied :
    ∃ e, watched.Kept ∧ watched.Takes (order .one 1 0 [1000, 600]) ∧ watched.writable? 0 = some e ∧
      levelValid e.kind 1000 = true ∧
      ∀ i : Fin 6, watched.windows[i].isOpen = true → watched.windows[i].covers 0 = true → windowOwner i = .one :=
  ⟨_, kept_of_check _ (by decide), takes_of_check _ _ (by decide), rfl, by decide, by decide⟩

/-- The refusals of SET_POINT: past the table, a SENSE point, a word too few, levels and fades next to their ranges. -/
theorem test_hyps_SetPointIsApplied_refusals :
    (∀ o ∈ [order .one 1 3 [0, 0], order .one 1 2 [0, 0], order .one 1 0 [0], order .one 1 0 [1001, 0],
        order .one 1 0 [1000, 601], order .one 1 1 [1, 0], order .one 1 0 [0, -1]], duty.Kept ∧ duty.Takes o) ∧
      duty.point? 3 = none ∧ (duty.point? 2).map (fun e => e.kind) = some .sense ∧
      (duty.point? 0).map (fun e => e.kind) = some .dimmed ∧ (duty.point? 1).map (fun e => e.kind) = some .switched :=
  ⟨fun o ho => ⟨duty_kept, takes_of_check _ _ (by revert o; decide)⟩, by decide⟩

/-- Seven entries leave room for an eighth; eight do not. -/
theorem test_hyps_SetPointIsHeld :
    let held := fun n : Nat =>
      ({ watched with held := (List.range n).map fun i => { heldEntry with hold := BitVec.ofNat 8 i } } : State)
    ∃ e, (held 7).Kept ∧ (held 8).Kept ∧ (held 7).Takes (order .two 1 0 [500, 0]) ∧
      (held 8).Takes (order .two 1 0 [500, 0]) ∧ watched.writable? 0 = some e ∧ levelValid e.kind 500 = true ∧
      (let catching := fun i : Fin 6 =>
        watched.windows[i].isOpen && watched.windows[i].covers 0 && windowOwner i != .two
      (∃ i, catching i = true) ∧ ∀ i, catching i = true → watched.windows[i].isHold = true) ∧
      (held 7).held.length < 8 ∧ (held 8).held.length = 8 :=
  ⟨_, kept_of_check _ (by decide), kept_of_check _ (by decide), takes_of_check _ _ (by decide),
    takes_of_check _ _ (by decide), rfl, by decide, by decide, by decide, by decide⟩

/-- With seven reports in the owner's list and with eight. -/
theorem test_hyps_WatchReportsAreMade :
    let told := fun n : Nat =>
      ({ duty with
        windows := duty.windows.set 0 ⟨true, 0, 2, false⟩
        stations := { duty.stations with
          one := { duty.stations.one with reports := List.replicate n ⟨.three, false, 1, 0⟩ } } } : State)
    ∃ e, (told 7).Kept ∧ (told 8).Kept ∧ (told 7).Takes (order .two 1 0 [500, 0]) ∧
      (told 8).Takes (order .two 1 0 [500, 0]) ∧ duty.writable? 0 = some e ∧ levelValid e.kind 500 = true ∧
      (let catching := fun i : Fin 6 =>
        (told 8).windows[i].isOpen && (told 8).windows[i].covers 0 && windowOwner i != .two
      (∃ i, catching i = true) ∧ ∀ i, catching i = true → (told 8).windows[i].isHold = false) :=
  ⟨_, kept_of_check _ (by decide), kept_of_check _ (by decide), takes_of_check _ _ (by decide),
    takes_of_check _ _ (by decide), rfl, by decide, by decide, by decide⟩

/-- With seven orders held and with eight, a HOLD window of station 1 and a REPORT window of station 3. -/
theorem test_hyps_WatchReportsAreMade_held :
    let held := fun n : Nat =>
      ({ watched with
        windows := watched.windows.set 4 ⟨true, 0, 0, false⟩
        held := (List.range n).map fun i => { heldEntry with hold := BitVec.ofNat 8 i } } : State)
    ∃ e, (∀ n ∈ [7, 8], (held n).Kept ∧ (held n).Takes (order .two 1 0 [500, 600])) ∧
      watched.writable? 0 = some e ∧ levelValid e.kind 500 = true ∧ (held 7).held.length = 7 ∧
      (held 8).held.length = 8 ∧ (held 7).Caught .two true [0] 0 = true ∧ (held 7).Caught .two false [0] 4 = true :=
  ⟨_, fun n hn => by
      rcases List.mem_cons.1 hn with h | h
      · subst h; exact meets _ _ (by decide)
      · cases List.mem_singleton.1 h; exact meets _ _ (by decide), rfl, by decide⟩

/-- By its own number, and in UNDERWAY as the zone's dark-running scene; the last scene number. -/
theorem test_hyps_RecallSceneIsApplied :
    let dark := { duty with cond := { duty.cond with mode := .underway }, zones := [⟨false, true, some 2, none⟩] }
    ∃ rec, duty.Kept ∧ duty.Takes (order .one 1 0 [2]) ∧ duty.scene? 0 2 = some rec ∧
      (∀ i : Fin 6, ∀ x ∈ rec.items, duty.windows[i].isOpen = true → duty.windows[i].covers x.point = true →
        windowOwner i = .one) ∧
      dark.Kept ∧ dark.Takes (order .one 1 0 [7]) ∧ dark.scene? 0 2 = some rec ∧
      (if dark.cond.mode = .underway ∧ (dark.zone 0).navSensitive = true then (dark.zone 0).dark else some 7) = some 2 :=
  ⟨_, duty_kept, takes _ _ _ _ _ (by decide), rfl, by decide, kept_of_check _ (by decide), takes_of_check _ _ (by decide),
    rfl, by decide⟩

/-- The refusals of RECALL_SCENE: the first zone past the last, a scene past the last, no scene word, UNDERWAY in a zone
with no dark-running scene, no record; a HOLD window with seven and with eight orders held. -/
theorem test_hyps_RecallSceneIsApplied_refusals :
    let dark := { duty with cond := { duty.cond with mode := .underway }, zones := [⟨false, true, none, none⟩] }
    let held := fun n : Nat =>
      ({ watched with held := (List.range n).map fun i => { heldEntry with hold := BitVec.ofNat 8 i } } : State)
    (∀ o ∈ [order .one 1 48 [2], order .one 1 0 [8], order .one 1 0 [], order .one 1 0 [7]], duty.Kept ∧ duty.Takes o) ∧
    duty.scene? 0 7 = none ∧
    ((dark.Kept ∧ dark.Takes (order .one 1 0 [2])) ∧ (dark.zone 0).dark = none ∧ (dark.zone 0).navSensitive = true) ∧
    (∀ n ∈ [7, 8], (held n).Kept ∧ (held n).Takes (order .two 1 0 [2])) ∧
    ∃ rec, watched.scene? 0 2 = some rec ∧
      (watched.windows[(0 : Fin 6)].isOpen && windowOwner 0 != .two &&
        rec.items.any fun x => watched.windows[(0 : Fin 6)].covers x.point) = true ∧
      watched.windows[(0 : Fin 6)].isHold = true :=
  ⟨meet _ _ (by decide), by decide, ⟨meets _ _ (by decide), by decide⟩,
    fun n hn => by
      rcases List.mem_cons.1 hn with h | h
      · subst h; exact meets _ _ (by decide)
      · cases List.mem_singleton.1 h; exact meets _ _ (by decide),
    _, rfl, by decide, by decide⟩

/-- A RECALL_SCENE that REPORT windows of two stations catch, and one that a HOLD window catches too. -/
theorem test_hyps_RecallSceneIsApplied_reports :
    let reported := { duty with
      windows := (duty.windows.set 0 ⟨true, 0, 0, false⟩).set 4 ⟨true, 0, 4, false⟩ }
    let mixed := { watched with windows := watched.windows.set 4 ⟨true, 0, 0, false⟩ }
    ∃ rec, reported.scene? 0 2 = some rec ∧
      ((reported.Kept ∧ reported.Takes (order .two 1 0 [2])) ∧
        (∀ i, reported.Caught .two true (rec.items.map fun x => x.point) i = false) ∧
        reported.Caught .two false (rec.items.map fun x => x.point) 0 = true ∧
        reported.Caught .two false (rec.items.map fun x => x.point) 4 = true) ∧
      ((mixed.Kept ∧ mixed.Takes (order .two 1 0 [2])) ∧ mixed.held.length < 8 ∧
        mixed.Caught .two true (rec.items.map fun x => x.point) 0 = true ∧
        mixed.Caught .two false (rec.items.map fun x => x.point) 4 = true) :=
  ⟨_, rfl, ⟨meets _ _ (by decide), by decide⟩, meets _ _ (by decide), by decide⟩

/-- Scene words at both ends of the storing and the appending range. -/
theorem test_hyps_ScenesAreStoredAndErased :
    let o := fun w : Int => order .one 1 0 [w, 1, 1000, 600]
    ∃ items rec, duty.Kept ∧ duty.Takes (o 7) ∧ duty.Takes (o 10) ∧ sceneItems [1, 1000, 600] = some items ∧
      (duty.profile .one).sceneEdit = true ∧ duty.firstBadItem 0 1 [] items = none ∧ duty.scenes.length < 192 ∧
      duty.scene? 0 (10 - 8) = some rec ∧ duty.firstBadItem 0 1 rec.items items = none ∧
      duty.Takes (order .one 1 47 [7]) :=
  ⟨_, _, duty_kept, takes _ _ _ _ _ (by decide), takes _ _ _ _ _ (by decide), rfl, by decide, by decide, by decide, rfl,
    by decide, takes _ _ _ _ _ (by decide)⟩

set_option maxRecDepth 4096 in
/-- The refusals of STORE_SCENE and ERASE_SCENE: zone 48, no words, scene word 16, an item short of a word, an append with
no record, a station without SCENE_EDIT, a second item of the same point, a 193rd record. -/
theorem test_hyps_ScenesAreStoredAndErased_refusals :
    let plain := without { every with sceneEdit := false }
    let crammed := { duty with scenes := List.replicate 192 ⟨47, 7, []⟩ }
    (∀ o ∈ [order .one 1 48 [0, 0, 0, 0], order .one 1 0 [], order .one 1 0 [16, 0, 0, 0], order .one 1 0 [0, 0, 0],
        order .one 1 0 [8, 0, 0, 0], order .one 1 0 [0, 0, 0, 0, 0, 5, 0]], duty.Kept ∧ duty.Takes o) ∧
    duty.scene? 0 (8 - 8) = none ∧
    ((plain.Kept ∧ plain.Takes (order .one 1 0 [0, 0, 0, 0])) ∧ (plain.profile .one).sceneEdit = false) ∧
    (∃ items, sceneItems [0, 0, 0, 0, 5, 0] = some items ∧ duty.firstBadItem 0 1 [] items = some 2) ∧
    ((crammed.Kept ∧ crammed.Takes (order .one 1 0 [0, 0, 0, 0])) ∧ crammed.scene? 0 0 = none ∧
      192 ≤ crammed.scenes.length ∧ ∃ items, sceneItems [0, 0, 0] = some items ∧
        crammed.firstBadItem 0 1 [] items = none) ∧
    ((duty.Kept ∧ duty.Takes (order .one 1 0 [8])) ∧ plain.Takes (order .one 1 0 [7])) :=
  ⟨meet _ _ (by decide), by decide, ⟨meets _ _ (by decide), by decide⟩, ⟨_, rfl, by decide⟩,
    ⟨meets _ _ (by decide), by decide, by decide, _, rfl, by decide⟩, meets _ _ (by decide), (meets _ _ (by decide)).2⟩

/-- A window at the largest width; a closing that leaves the held entry another mark, or finds the window CLOSED. -/
theorem test_hyps_WindowsOpenAndClose :
    let two := { holding with
      windows := holding.windows.set 1 ⟨true, 0, 4, true⟩, held := [{ heldEntry with marks := 3 }] }
    duty.Kept ∧ duty.Takes (order .two 1 1 [496, 4, 1]) ∧ windowOwner 3 = .two ∧ duty.windows[(3 : Fin 6)].isOpen = false ∧
      496 % 2 ^ 4 = 0 ∧
      two.Kept ∧ two.Takes (order .one 1 0 []) ∧ two.windows[(0 : Fin 6)].isOpen = true ∧ (∀ h ∈ two.held, h.marks ≠ 0) ∧
      ∀ h ∈ two.held, h.marks.getLsbD 0 = true → ∃ j : Fin 6, j ≠ 0 ∧ h.marks.getLsbD j.val = true :=
  ⟨duty_kept, takes _ _ _ _ _ (by decide), by decide, by decide, by decide, kept_of_check _ (by decide),
    takes_of_check _ _ (by decide), by decide, by decide, by decide⟩

/-- Targets, bases, widths and kinds next to their ranges, and words too many. -/
theorem test_hyps_WindowsOpenAndClose_refusals :
    (∀ o ∈ [order .one 1 2 [0, 0, 0], order .one 1 0 [0, 0], order .one 1 0 [512, 0, 0], order .one 1 0 [0, 5, 0],
        order .one 1 1 [0, 0, 2], order .one 1 1 [1, 1, 0]], duty.Kept ∧ duty.Takes o) ∧ (1 : Nat) % 2 ^ 1 ≠ 0 :=
  ⟨meet _ _ (by decide), by decide⟩

/-- Their window is closed, by CLOSE_WATCH and by OPEN_WATCH, with an entry that keeps another mark. -/
theorem test_hyps_WindowsOpenAndClose_releases :
    let two := { releasing with
      windows := releasing.windows.set 1 ⟨true, 0, 4, true⟩
      held := releasing.held.map fun h : HeldEntry => if h.hold = 1 then { h with marks := 3 } else h }
    (releasing.Kept ∧ releasing.HeldLaw ∧ (∀ h ∈ releasing.held, h.what.InWords) ∧
      releasing.Takes (order .one 1 0 []) ∧ releasing.Takes (order .one 1 0 [496, 4, 1]) ∧
      releasing.windows[(0 : Fin 6)].isOpen = true ∧ releasing.Awaits ⟨.two, 10, 1⟩ ∧
      releasing.held.map (fun h => ((releasing.onRelease h.what).1, (releasing.onRelease h.what).2.1)) =
        [(.done, .noReason), (.done, .noReason), (.refused, .badOperand), (.refused, .badTarget),
          (.refused, .badOperand)]) ∧
    (two.Kept ∧ two.HeldLaw ∧ two.Takes (order .one 1 0 []) ∧
      (two.held.filter fun h : HeldEntry => h.marks != 1#6 <<< 0).length = 1) :=
  ⟨⟨kept_of_check _ (by decide), by unfold State.HeldLaw; decide, releasing_inWords,
      takes_of_check _ _ (by decide), takes_of_check _ _ (by decide), by decide, by unfold State.Awaits; decide,
      by decide⟩, kept_of_check _ (by decide), by unfold State.HeldLaw; decide, takes_of_check _ _ (by decide), by decide⟩

/-! ### Hypotheses: claims and local controls -/

def waiting : State :=
  { duty with
    nextSerial := 1
    stations :=
      { duty.stations with three := { duty.stations.three with intake := [⟨0, 5, codeClaim, 0, 4, [], .waiting⟩] } }
    claims := { duty.claims with hatch := { heldBy .one with waiters := [⟨.three, 5, 0⟩] } } }

/-- Waiting, with station 2's CLAIM in its intake too. -/
def queued : State :=
  { waiting with
    nextSerial := 2
    stations :=
      { waiting.stations with two := { waiting.stations.two with intake := [⟨1, 6, codeClaim, 0, 4, [], .waiting⟩] } } }

theorem queued_kept : queued.Kept := kept_of_check _ (by decide)

theorem test_hyps_ClaimIsLetGoAtRest :
    let deck := { duty with claims := { duty.claims with hatch := { ClaimRecord.free with holder := .deck, localHold := some 10000 } } }
    (duty.Kept ∧ duty.heldDown = false ∧ isActive (duty.mover .hatch).state = false ∧
      (∀ c ∈ controlsOf .hatch, duty.control c ≠ .passed) ∧ duty.Takes (order .one 1 0 []) ∧
      (duty.claim .hatch).holder = .station .one ∧ (duty.claim .hatch).ending = .notEnding ∧
      (duty.claim .hatch).deadline = some 120000 ∧ (duty.claim .hatch).waiters = []) ∧
    (deck.Kept ∧ (deck.claim .hatch).holder = .deck ∧ (deck.claim .hatch).localHold = some 10000 ∧
      (deck.claim .hatch).waiters = []) ∧
    (waiting.Kept ∧ (waiting.claim .hatch).waiters = [⟨.three, 5, 0⟩] ∧ (waiting.profile .three).movers.get .hatch = true ∧
      (waiting.station .three).attached = true ∧ ∃ e ∈ (waiting.station .three).intake, e.serial = 0) :=
  ⟨⟨duty_kept, by decide, by decide, by decide, takes _ _ _ _ _ (by decide), by decide⟩,
    ⟨kept_of_check _ (by decide), by decide⟩, kept_of_check _ (by decide), by decide⟩

/-- Two that wait for the hatch, the older without the authority; nobody who has it, with a control pressed and without:
each with a claim of station 1 and with LOCAL's hold running. -/
theorem test_hyps_ClaimIsLetGoAtRest_waiters :
    let queued := fun (c : ClaimRecord) =>
      ({ queued with profiles := ⟨every, { every with movers := ⟨false, true, true⟩ }, every⟩ } : State).setClaim .hatch
        { c with waiters := [⟨.two, 6, 1⟩, ⟨.three, 5, 0⟩] }
    let alone := fun (c : ClaimRecord) (pressed : Bool) =>
      (if pressed then duty.setControl .hatchButton .passed else duty).setClaim .hatch c
    let local_ : ClaimRecord := { ClaimRecord.free with holder := .deck, localHold := some 10000 }
    let own : ClaimRecord := { heldBy .one with override := some 3000 }
    (∀ c, (queued c).Kept ∧ (queued c).Takes (order .one 1 0 []) ∧ (queued c).Awaits ⟨.two, 6, 1⟩ ∧
      (queued c).Awaits ⟨.three, 5, 0⟩) ∧
    (∀ c p, (alone c p).Kept ∧ (alone c p).Takes (order .one 1 0 [])) ∧
    (∀ c ∈ [own, local_], (queued c).heldDown = false ∧ isActive ((queued c).mover .hatch).state = false ∧
      ((queued c).profile .two).movers.get .hatch = false ∧ ((queued c).profile .three).movers.get .hatch = true) ∧
    own.holder = .station .one ∧ own.ending = .notEnding ∧ own.deadline = some 120000 ∧
    local_.holder = .deck ∧ local_.localHold = some 10000 ∧ (alone own true).control .hatchButton = .passed ∧
    ∀ x ∈ controlsOf .hatch, (alone own false).control x ≠ .passed :=
  ⟨fun _ => ⟨kept_like _ queued_kept rfl, takes_of_check _ _ rfl, ⟨_, List.mem_cons_self, rfl⟩, ⟨_, List.mem_cons_self, rfl⟩⟩,
    fun _ p => by cases p <;> exact ⟨kept_like _ duty_kept rfl, takes_of_check _ _ rfl⟩, by decide⟩

/-- Mover 3, a word, a claim of another station, and a claim that is ending. -/
theorem test_hyps_ClaimIsLetGoAtRest_refusals :
    let ending := duty.setClaim .hatch { heldBy .one with ending := .expiring, deadline := none }
    (∀ o ∈ [order .one 1 3 [], order .one 1 0 [0], order .two 1 0 []], duty.Kept ∧ duty.Takes o) ∧
      moverOf 3 = none ∧ ¬(duty.claim .hatch).holder = .station .two ∧
      (ending.Kept ∧ ending.Takes (order .one 1 0 [])) ∧ ¬(ending.claim .hatch).ending = .notEnding :=
  ⟨meet _ _ (by decide), by decide, by decide, meets _ _ (by decide), by decide⟩

theorem test_hyps_ClaimEndsByOverrideOrWithAHalt :
    let pressed := moving.setClaim .hatch { heldBy .one with override := some 3000 }
    let rest := duty.setClaim .hatch { heldBy .one with override := some 3000 }
    (moving.Kept ∧ moving.heldDown = false ∧ isMotion (moving.mover .hatch).state = true ∧
      (moving.claim .hatch).holder = .station .one ∧ (moving.claim .hatch).ending = .notEnding ∧
      moving.Takes (order .one 1 0 []) ∧ (moving.claim .hatch).deadline = some 120000) ∧
    (pressed.Kept ∧ (pressed.claim .hatch).holder = .station .one ∧ (pressed.claim .hatch).override = some 3000) ∧
    (rest.heldDown = false ∧ isActive (rest.mover .hatch).state = false ∧ (rest.claim .hatch).holder = .station .one ∧
      (rest.claim .hatch).ending = .notEnding ∧ (rest.claim .hatch).override = some 3000) :=
  ⟨⟨kept_of_check _ (by decide), by decide, by decide, by decide, by decide, takes_of_check _ _ (by decide), by decide⟩,
    ⟨kept_of_check _ (by decide), by decide⟩, by decide⟩

/-- The hatch in RECOVERING in each way, and in HALTING, under station 1's claim. -/
theorem test_hyps_ClaimEndsByOverrideOrWithAHalt_others :
    let s := fun r => owing (hatchIn r)
    (∀ r, (s r).Kept ∧ (s r).Takes (order .one 1 0 []) ∧ (s r).Awaits owed) ∧
    (∀ r, ((s r).claim .hatch).holder = .station .one ∧ ((s r).claim .hatch).ending = .notEnding ∧
      ((s r).claim .hatch).deadline = some 120000 ∧ (s r).heldDown = false) ∧
    (∀ x ∈ controlsOf .hatch, (s movingHatch).control x ≠ .passed) ∧
    ((s (recovering false false)).mover .hatch).stopConfirmed = false ∧
    (∀ lost, ((s (recovering true lost)).mover .hatch).stopConfirmed = true) ∧
    ((s (movingHatch.halting .halted)).mover .hatch).state = .halting :=
  ⟨fun _ => ⟨kept_like _ owing_kept rfl, takes_of_check _ _ rfl, owing_awaits _⟩, fun _ => ⟨rfl, rfl, rfl, rfl⟩, by decide,
    by decide, by decide, by decide⟩

/-- The local hold of a moving hatch; and the override of a hatch in HALTING and in RECOVERING, with its button pressed and
with no control pressed, by a claim that is not ending and by one that is RELEASING. -/
theorem test_hyps_ClaimEndsByOverrideOrWithAHalt_overrides :
    let held := moving.setClaim .hatch { ClaimRecord.free with holder := .deck, localHold := some 10000 }
    let s := fun (r : MoverRecord) (pressed releasing : Bool) =>
      ((owing (hatchIn r)).setControl .hatchButton (if pressed then .passed else .released)).setClaim .hatch
        { heldBy .one with
          override := some 3000, ending := if releasing then .releasing else .notEnding
          releaseOrder := if releasing then some owed else none }
    (held.Kept ∧ held.heldDown = false ∧ isActive (held.mover .hatch).state = true ∧
      (held.claim .hatch).localHold = some 10000) ∧
    (∀ r p e, (s r p e).Kept ∧ (s r p e).heldDown = false ∧ ((s r p e).claim .hatch).holder = .station .one ∧
      ((s r p e).claim .hatch).override = some 3000 ∧ (s r p e).Awaits owed) ∧
    ((s (recovering false false) true false).mover .hatch).stopConfirmed = false ∧
    ((s (movingHatch.halting .halted) true true).mover .hatch).state = .halting ∧
    (∀ lost, ((s (recovering true lost) true false).mover .hatch).stopConfirmed = true ∧
      ((s (recovering true lost) true false).mover .hatch).live = none) ∧
    ((controlsOf .hatch).filter fun x => (s (recovering true false) true false).control x == .passed) = [.hatchButton] ∧
    ((controlsOf .hatch).filter fun x => (s (recovering true false) false false).control x == .passed) = [] ∧
    (let near := s { recovering true false with position := 995 } true false
     let out := s (recovering true false) true false
     out.localTarget .hatchButton = 1000 ∧ permitCheck out .hatch true (.toward 1000) = none ∧
       permitCheck near .hatch true (.toward 1000) = none ∧ 1000 - (near.mover .hatch).position ≤ tolerance .hatch ∧
       ¬(1000 - (out.mover .hatch).position ≤ tolerance .hatch)) :=
  ⟨⟨kept_of_check _ (by decide), by decide⟩, fun _ _ _ => ⟨kept_like _ owing_kept rfl, rfl, rfl, rfl, owing_awaits _⟩, by decide⟩

theorem test_hyps_PressesReachTheClaim :
    let pressed := duty.setControl .platformUp .passed
    let underway := { duty with cond := { duty.cond with mode := .underway } }
    let struck := { duty with claims := ⟨heldBy .one, .free, heldBy .one⟩, cond := { duty.cond with latch := true } }
    (duty.Kept ∧ duty.cond.mode ≠ .underway ∧ duty.control .platformUp = .released ∧
      (∀ d, leverOther .platformUp = some d → duty.control d = .released) ∧ (duty.claim .platform).holder = .station .two) ∧
    (pressed.Kept ∧ pressed.control .platformUp = .passed ∧
      ∀ d ∈ controlsOf .platform, d ≠ .platformUp → pressed.control d ≠ .passed) ∧
    (underway.Kept ∧ underway.cond.mode = .underway ∧ underway.control .windlassPayOut = .released) ∧
    (struck.Kept ∧ (struck.claim .platform).holder = .nobody ∧ struck.cond.latch = true ∧
      isActive (struck.mover .platform).state = false ∧ struck.footBlocked = false) :=
  ⟨⟨duty_kept, by decide, by decide, fun d => by cases d <;> decide, by decide⟩,
    ⟨kept_of_check _ (by decide), by decide, by decide⟩, ⟨kept_of_check _ (by decide), by decide⟩,
    kept_of_check _ (by decide), by decide⟩

/-- A press on a free claim and one where LOCAL holds, each with a drive, at the target, and refused; a press of an active
mover's control; the second foot switch at rest and in a drive. -/
theorem test_hyps_PressesReachTheClaim_drives :
    let free := { duty with claims := ⟨.free, .free, .free⟩ }
    let deckOf := fun m => free.setClaim m { ClaimRecord.free with holder := .deck, localHold := some 10000 }
    let lit := deckOf .hatch
    let struck := { lit with cond := { lit.cond with latch := true } }
    let out := free.setMover .platform { restingMover with position := 394 }
    let busy := lit.setMover .hatch movingHatch
    let heaving := (deckOf .windlass).setMover .windlass
      { movingHatch with position := 600, target := some 0, live := some ⟨.windlassHeave, true⟩ }
    let waitingFoot := (deckOf .windlass).setMover .windlass { restingMover with live := some ⟨.windlassHeave, false⟩ }
    (free.Kept ∧ free.heldDown = false ∧ free.cond.mode ≠ .underway ∧ free.control .hatchButton = .released ∧
      (∀ d, leverOther .hatchButton = some d → free.control d = .released) ∧ (free.claim .hatch).holder = .nobody ∧
      isActive (free.mover .hatch).state = false ∧ (free.mover .hatch).state ≠ .faulted ∧
      permitCheck free .hatch true (.toward 1000) = none ∧ free.cond.hatchClosed = true) ∧
    (lit.Kept ∧ (lit.claim .hatch).holder = .deck ∧ permitCheck lit .hatch true (.toward 1000) = none) ∧
    (struck.Kept ∧ permitCheck struck .hatch true (.toward 1000) ≠ none) ∧
    (out.Kept ∧ permitCheck out .platform true (.toward 400) = none ∧
      out.params.deckLevel = 400 ∧ (out.mover .platform).position < 395) ∧
    (permitCheck free .windlass true (.toward 0) = none ∧ (free.mover .windlass).position = 0) ∧
    (busy.Kept ∧ isActive (busy.mover .hatch).state = true) ∧
    (heaving.Kept ∧ heaving.control .windlassPayOut = .released ∧ heaving.footBlocked = false ∧
      isMotion (heaving.mover .windlass).state = true) ∧
    (waitingFoot.Kept ∧ (waitingFoot.claim .windlass).holder = .deck) :=
  ⟨⟨kept_of_check _ (by decide), by decide, by decide, by decide, fun d => by cases d <;> decide, by decide⟩,
    ⟨kept_of_check _ (by decide), by decide⟩, ⟨kept_of_check _ (by decide), by decide⟩,
    ⟨kept_of_check _ (by decide), by decide⟩, by decide, ⟨kept_of_check _ (by decide), by decide⟩,
    ⟨kept_of_check _ (by decide), by decide⟩, kept_of_check _ (by decide), by decide⟩

/-- In UNDERWAY, the hatch button with a check running, with an unsent poll of the hatch's module, and with none. -/
theorem test_hyps_PressesReachTheClaim_latchCheck :
    let under := { duty with cond := { duty.cond with mode := .underway } }
    let checking := { under with latchCheck := true }
    let polled := { under with queue := [QueueFrame.fresh 29 (.poll false false)] }
    (under.Kept ∧ under.control .hatchButton = .released ∧ under.latchCheck = false ∧
      (under.module under.params.modules.hatch).present = true ∧ under.queue = []) ∧
    (checking.Kept ∧ checking.latchCheck = true) ∧
    (polled.Kept ∧ polled.queue.findIdx? (fun f => f.module == 29 && f.isPoll && f.stage == .unsent) = some 0) :=
  ⟨⟨kept_of_check _ (by decide), by decide⟩, ⟨kept_of_check _ (by decide), by decide⟩, kept_of_check _ (by decide),
    by decide⟩

/-- The release of a control of LOCAL's: of the drive it runs, of a press that waits, and of one that is spent; with the
other foot switch pressed; and by a claim that is REVOKED. Of a control that was screened out, or held since the restart,
or pressed on a claim that is free again, or whose other stays pressed against a station. A control in each of its states
is pressed again too. -/
theorem test_hyps_PressesReachTheClaim_releases :
    let s := fun (c : Control) (live : Option LivePress) (ending : Ending) =>
      (((duty.setControl c .passed).setClaim (moverOfControl c)
        { ClaimRecord.free with holder := .deck, ending := ending }).setMover (moverOfControl c)
          { movingHatch with live := live })
    let both := (s .windlassHeave (some ⟨.windlassHeave, true⟩) .notEnding).setControl .windlassPayOut .passed
    let dull := fun x => duty.setControl .windlassPayOut x
    let free := (duty.setControl .hatchButton .passed).setClaim .hatch .free
    let pair := (duty.setControl .windlassHeave .passed).setControl .windlassPayOut .passed
    (∀ c live e, (s c live e).heldDown = false ∧ (s c live e).control c = .passed ∧
      ((s c live e).claim (moverOfControl c)).holder = .deck) ∧
    (∀ live e, (s .hatchButton live e).Kept ∧ ((s .hatchButton live e).mover .hatch).live = live ∧
      isMotion ((s .hatchButton live e).mover .hatch).state = true) ∧
    (both.Kept ∧ ∃ d ∈ controlsOf .windlass, d ≠ .windlassHeave ∧ both.control d = .passed) ∧
    (∀ x, (dull x).Kept ∧ (dull x).control .windlassPayOut = x) ∧
    (free.Kept ∧ (free.claim .hatch).holder = .nobody) ∧
    (pair.Kept ∧ (pair.claim .windlass).holder = .station .one ∧
      ∃ d ∈ controlsOf .windlass, d ≠ .windlassHeave ∧ pair.control d = .passed) :=
  ⟨fun c _ _ => by cases c <;> exact ⟨rfl, rfl, rfl⟩, fun _ _ => ⟨kept_like _ duty_kept rfl, rfl, rfl⟩,
    ⟨kept_of_check _ (by decide), by decide⟩, fun x => ⟨kept_like _ duty_kept rfl, rfl⟩,
    ⟨kept_of_check _ (by decide), by decide⟩, kept_of_check _ (by decide), by decide⟩

/-- A heave in UNDERWAY against a station's claim, and on a free one. -/
theorem test_hyps_PressesReachTheClaim_heave :
    let under := { duty with cond := { duty.cond with mode := .underway } }
    let free := under.setClaim .windlass .free
    (under.Kept ∧ under.heldDown = false ∧ under.control .windlassHeave = .released ∧
      (∀ d, leverOther .windlassHeave = some d → under.control d = .released) ∧
      (under.claim .windlass).holder = .station .one) ∧
    (free.Kept ∧ (free.claim .windlass).holder = .nobody ∧ free.footBlocked = false) :=
  ⟨⟨kept_of_check _ (by decide), by decide, by decide, fun d => by cases d <;> decide, by decide⟩,
    kept_of_check _ (by decide), by decide⟩

/-- While the bar on the foot switches stands: a heave on a free claim, where LOCAL holds with no live press, in UNDERWAY,
and with a live press that it ends. -/
theorem test_hyps_PressesReachTheClaim_bar :
    let barred := { duty.setControl .windlassPayOut .passed with footBlocked := true }
    let free := barred.setClaim .windlass .free
    let deck := barred.setClaim .windlass { ClaimRecord.free with holder := .deck, localHold := some 10000 }
    let under := { free with cond := { free.cond with mode := .underway } }
    let live := deck.setMover .windlass { restingMover with live := some ⟨.windlassPayOut, false⟩ }
    (∀ s ∈ [free, deck, under, live], s.footBlocked = true ∧ s.heldDown = false ∧ s.control .windlassHeave = .released) ∧
    (free.Kept ∧ free.cond.mode ≠ .underway ∧ (free.claim .windlass).holder = .nobody) ∧
    (deck.Kept ∧ deck.cond.mode ≠ .underway ∧ (deck.claim .windlass).holder = .deck ∧
      (deck.mover .windlass).live = none) ∧
    (under.Kept ∧ (under.claim .windlass).holder = .nobody) ∧
    (live.Kept ∧ (live.claim .windlass).holder = .deck ∧ (live.mover .windlass).live = some ⟨.windlassPayOut, false⟩) :=
  ⟨by decide, ⟨kept_like _ duty_kept rfl, by decide⟩, ⟨kept_like _ duty_kept rfl, by decide⟩,
    ⟨kept_like _ duty_kept rfl, by decide⟩, kept_like _ duty_kept rfl, by decide⟩

/-- A press of one lever position while the other stands pressed, in each way it can, and while that one's drive runs. -/
theorem test_hyps_PressesReachTheClaim_lever :
    let other := fun x => duty.setControl .platformDown x
    let driving := ((other .passed).setClaim .platform { ClaimRecord.free with holder := .deck }).setMover .platform
      { movingHatch with live := some ⟨.platformDown, true⟩ }
    (∀ x ∈ [ControlState.passed, .screened, .heldSinceRestart], leverOther .platformUp = some .platformDown ∧
      (other x).Kept ∧ (other x).heldDown = false ∧ (other x).control .platformUp = .released ∧
      (other x).control .platformDown ≠ .released) ∧
    (driving.Kept ∧ driving.heldDown = false ∧ driving.cond.mode ≠ .underway ∧ driving.control .platformUp = .released ∧
      driving.control .platformDown = .passed ∧ (driving.claim .platform).holder = .deck ∧
      (driving.mover .platform).live = some ⟨.platformDown, true⟩ ∧
      isMotion (driving.mover .platform).state = true) :=
  ⟨fun x hx => ⟨rfl, kept_like _ duty_kept rfl, rfl, rfl, by revert x; decide⟩, kept_like _ duty_kept rfl, by decide⟩

/-! ### Hypotheses: motions -/

/-- A state and operands for each item of the check, and for each way it passes. -/
theorem test_hyps_PermitCheckTakesTheItemsInOrder :
    let latched := { duty with cond := { duty.cond with latch := true } }
    let swum := { duty with cond := { duty.cond with swimmer := true } }
    let under := { duty with cond := { duty.cond with mode := .underway } }
    let astray := { duty with cond := { duty.cond with stowed := false } }
    latched.cond.latch = true ∧
    (swum.cond.latch = false ∧ Mover.platform ≠ .hatch ∧ swum.cond.swimmer = true) ∧
    (under.cond.mode = .underway ∧ permitCheck under .windlass false (.toward 1200) = some .permitInterlock ∧
      permitCheck under .windlass false .homing = none) ∧
    (isActive astray.movers.platform.state = false ∧ astray.cond.deckSwitch = false ∧
      permitCheck astray .hatch false (.toward 5) = some .permitInterlock) ∧
    (duty.cond.mode ≠ .underway ∧ permitCheck duty .platform false (.toward 5) = none) := by
  decide

/-- Each check of MOVE and HOME with what passes before it. -/
theorem test_hyps_MoveAndHomeAreRefused :
    let bare := { duty with profiles := ⟨⟨true, false, true, true, ⟨true, true, true⟩⟩, every, every⟩ }
    let faulted := hatchIn { restingMover with state := .faulted }
    let lost := hatchIn { restingMover with state := .halted, valid := false }
    let latched := { duty with cond := { duty.cond with latch := true } }
    let under := { duty with cond := { duty.cond with mode := .underway } }
    (duty.Kept ∧ duty.Takes (order .one 1 3 [5]) ∧ moverOf (order .one 1 3 [5]).target = none) ∧
    (duty.Takes (order .one 1 0 [1001]) ∧ scaleTop duty.params.chainLength .hatch = 1000) ∧
    (under.motionModeValid .one .hatch (some 500) = false ∧ under.motionModeValid .one .hatch none = false) ∧
    (bare.Kept ∧ bare.Takes (order .one 1 0 [500] 2) ∧ bare.motionModeValid .one .hatch (some 500) = true ∧
      (bare.profile .one).attend = false) ∧
    (duty.Takes (order .two 1 0 [500]) ∧ ¬(duty.claim .hatch).holder = .station .two) ∧
    ((faulted.mover .hatch).state = .faulted ∧ (lost.mover .hatch).state = .halted ∧
      (moving.mover .hatch).state = .moving ∧ (moving.mover .hatch).position < 1000 ∧
      ¬(moving.mover .hatch).position < 0 ∧ withinTolerance .hatch 500 (moving.mover .hatch).position = false) ∧
    (latched.Kept ∧ latched.Takes (order .one 1 0 [500]) ∧
      permitCheck latched .hatch false (.toward 500) = some .permitEstop ∧
      permitCheck latched .hatch false .homing = some .permitEstop) :=
  ⟨⟨duty_kept, takes _ _ _ _ _ (by decide), by decide⟩, ⟨takes _ _ _ _ _ (by decide), by decide⟩, by decide,
    ⟨kept_of_check _ (by decide), takes_of_check _ _ (by decide), by decide⟩, ⟨takes _ _ _ _ _ (by decide), by decide⟩,
    by decide, ⟨kept_of_check _ (by decide), takes_of_check _ _ (by decide), by decide⟩⟩

/-- The windlass at both ends of its scale; a homing of the hatch. -/
theorem test_hyps_MoveAndHomeStartAMotion :
    let below := duty.setMover .windlass { restingMover with position := 600 }
    (duty.Kept ∧ duty.Takes (order .one 1 2 [1200] 7) ∧ scaleTop duty.params.chainLength .windlass = 1200 ∧
      duty.motionModeValid .one .windlass (some 1200) = true ∧ (duty.profile .one).attend = true ∧
      (duty.claim .windlass).holder = .station .one ∧ (duty.claim .windlass).ending = .notEnding ∧
      (duty.mover .windlass).state = .idle ∧ permitCheck duty .windlass true (.toward 1200) = none ∧
      ¬(1200 - (duty.mover .windlass).position ≤ tolerance .windlass)) ∧
    (below.Kept ∧ below.Takes (order .one 1 2 [0]) ∧ permitCheck below .windlass false (.toward 0) = none ∧
      ¬((below.mover .windlass).position - 0 ≤ tolerance .windlass)) ∧
    (duty.Takes (order .one 1 0 [] 6) ∧ duty.motionModeValid .one .hatch none = true ∧
      isActive (duty.mover .hatch).state = false ∧ permitCheck duty .hatch true .homing = none) :=
  ⟨⟨duty_kept, takes _ _ _ _ _ (by decide), by decide⟩, ⟨kept_of_check _ (by decide), takes_of_check _ _ (by decide), by decide⟩,
    takes _ _ _ _ _ (by decide), by decide⟩

/-- A MOVE at the edge of the tolerance; a retarget of a hatch at 300 on its way to 1000; a declaration that waits. -/
theorem test_hyps_MoveAndHomeStartAMotion_retargets :
    let near := hatchIn { restingMover with position := 995 }
    let under_way := hatchIn { movingHatch with position := 300, deferred := none }
    let declared := { owing duty with declaration := some ⟨50, some owed, 31⟩ }
    (near.Kept ∧ near.Takes (order .one 1 0 [1000]) ∧ near.motionModeValid .one .hatch (some 1000) = true ∧
      permitCheck near .hatch false (.toward 1000) = none ∧
      1000 - (near.mover .hatch).position ≤ tolerance .hatch ∧ (near.mover .hatch).state = .idle) ∧
    (under_way.Kept ∧ under_way.Takes (order .one 1 0 [500]) ∧ permitCheck under_way .hatch false (.toward 500) = none ∧
      (under_way.mover .hatch).state = .moving ∧ (under_way.mover .hatch).attempts = 0 ∧
      ((under_way.mover .hatch).position < (under_way.mover .hatch).target.getD 0 ∧
        (under_way.mover .hatch).position < 500) ∧
      ¬(500 - (under_way.mover .hatch).position ≤ tolerance .hatch)) ∧
    (declared.Kept ∧ declared.Takes (order .one 1 2 [600]) ∧ declared.Awaits owed ∧
      permitCheck declared .windlass false (.toward 600) = none) :=
  ⟨⟨kept_of_check _ (by decide), takes_of_check _ _ (by decide), by decide⟩,
    ⟨kept_of_check _ (by decide), takes_of_check _ _ (by decide), by decide⟩, kept_of_check _ (by decide),
    takes_of_check _ _ (by decide), ⟨_, List.mem_cons_self, rfl⟩, by decide⟩

theorem test_hyps_HaltHaltsAMovingMover :
    (moving.Kept ∧ moving.Takes (order .two 1 0 []) ∧ isMotion (moving.mover .hatch).state = true) ∧
    (duty.Kept ∧ duty.Takes (order .two 1 0 []) ∧ isMotionOrRecovering (duty.mover .hatch).state = false) :=
  ⟨⟨kept_of_check _ (by decide), takes_of_check _ _ (by decide), by decide⟩, duty_kept, takes _ _ _ _ _ (by decide), by decide⟩

/-- The refusals of HALT; HALT of all three with the hatch moving; HALT in RECOVERING with the halt frame confirmed and not,
the link good and lost. -/
theorem test_hyps_HaltHaltsAMovingMover_others :
    let paused := fun (confirmed lost : Bool) =>
      owing (hatchIn { movingHatch with
        state := .recovering, attempts := 1, linkLost := lost, deferred := some owed
        pause := some ⟨2000, false, confirmed⟩ })
    (∀ o ∈ [order .one 1 3 [], order .one 1 0xFFFE [], order .one 1 0 [0], order .one 1 0xFFFF [0]],
      duty.Kept ∧ duty.Takes o) ∧
    ((moving.Kept ∧ moving.Takes (order .two 1 0xFFFF [])) ∧ isMotion (moving.mover .hatch).state = true ∧
      isMotionOrRecovering (moving.mover .platform).state = false) ∧
    ∀ confirmed lost, ((paused confirmed lost).Kept ∧ (paused confirmed lost).Takes (order .two 1 0 [])) ∧
      (paused confirmed lost).Awaits owed ∧ ((paused confirmed lost).mover .hatch).state = .recovering ∧
      ((paused confirmed lost).mover .hatch).pause = some ⟨2000, false, confirmed⟩ ∧
      ((paused confirmed lost).claim .hatch).holder = .station .one ∧
      ((paused confirmed lost).claim .hatch).ending = .notEnding :=
  ⟨meet _ _ (by decide), ⟨meets _ _ (by decide), by decide⟩, fun c l => by
    cases c <;> cases l <;> exact ⟨meets _ _ (by decide), ⟨_, List.mem_cons_self, rfl⟩, by decide⟩⟩

/-- A halt frame answered, with the link good and with it lost. -/
theorem test_hyps_HaltHaltsAMovingMover_confirmation :
    let halting := fun lost : Bool =>
      { owing (hatchIn { restingMover with state := .halting, haltCause := some .halted, deferred := some owed, linkLost := lost })
        with
        haltSlots := ⟨some ⟨some 4, 1, .inFlight⟩, none, none⟩
        sideFlights := [⟨29, 4, 20, .halt .hatch⟩] }
    let r := reply 29 4 .halt [] (some ⟨.stopped, 4, some 310⟩)
    (∀ lost, (halting lost).Kept ∧ (halting lost).OneMoverEach ∧ (halting lost).Answers 29 r ∧
      (halting lost).Awaits owed) ∧
    ∀ lost, (halting lost).queue.find? (fun g => g.answeredBy 29 r) = none ∧
      (halting lost).sideFlights.find? (fun y => y.answeredBy 29 r) = some ⟨29, 4, 20, .halt .hatch⟩ ∧
      (halting lost).slotHolds .hatch r.seq = true ∧ ((halting lost).mover .hatch).state = .halting ∧
      ((halting lost).mover .hatch).linkLost = lost ∧ ((halting lost).claim .hatch).holder = .station .one ∧
      ((halting lost).claim .hatch).ending = .notEnding :=
  ⟨fun lost => ⟨by cases lost <;> exact kept_of_check _ (by decide), duty_apart, ⟨rfl, rfl, rfl⟩,
      ⟨_, List.mem_cons_self, rfl⟩⟩, by decide⟩

/-- The values 0 and 1 with the anchor home, 2 and the chain length with it away. -/
theorem test_hyps_SetChainOutDeclares :
    let away := { duty with cond := { duty.cond with anchorHome := false } }
    (duty.Kept ∧ duty.Takes (order .one 1 2 [0]) ∧ duty.Takes (order .one 1 2 [1]) ∧
      duty.seenMade .windlass duty.cond.anchorHome = true ∧ (duty.profile .one).maint = true ∧
      (duty.claim .windlass).holder = .station .one ∧ isActive duty.movers.windlass.state = false ∧
      duty.movers.windlass.state ≠ .faulted ∧ duty.declaration = none ∧
      (duty.module duty.params.modules.windlass).present = true) ∧
    (away.Kept ∧ away.Takes (order .one 1 2 [2]) ∧ away.Takes (order .one 1 2 [1200]) ∧ away.params.chainLength = 1200 ∧
      away.seenMade .windlass away.cond.anchorHome = false) :=
  ⟨⟨duty_kept, takes _ _ _ _ _ (by decide), takes _ _ _ _ _ (by decide), by decide⟩, kept_of_check _ (by decide),
    takes_of_check _ _ (by decide), takes_of_check _ _ (by decide), by decide⟩

/-- Each refusal of SET_CHAIN_OUT with what passes before it; the reply to a preset frame. -/
theorem test_hyps_SetChainOutDeclares_refusals :
    let away := { duty with cond := { duty.cond with anchorHome := false } }
    let poor := { duty with profiles := ⟨⟨true, true, true, false, ⟨true, true, true⟩⟩, every, every⟩ }
    let taken := { duty with claims := ⟨heldBy .one, heldBy .two, heldBy .two⟩ }
    let busy := duty.setMover .windlass { movingHatch with target := some 600 }
    let faulted := duty.setMover .windlass { restingMover with state := .faulted }
    let declared := { duty with declaration := some ⟨50, none, 31⟩ }
    let gone := { duty with modules := duty.modules.set 31 { duty.module 31 with present := false } }
    (duty.Kept ∧ duty.Takes (order .one 1 1 [0]) ∧ duty.Takes (order .one 1 2 [0, 0]) ∧ duty.Takes (order .one 1 2 [1201]) ∧
      duty.Takes (order .one 1 2 [2]) ∧ duty.seenMade .windlass duty.cond.anchorHome = true) ∧
    (away.Kept ∧ away.Takes (order .one 1 2 [0]) ∧ away.seenMade .windlass away.cond.anchorHome = false) ∧
    (poor.Kept ∧ poor.Takes (order .one 1 2 [0]) ∧ (poor.profile .one).maint = false) ∧
    (taken.Kept ∧ taken.Takes (order .one 1 2 [0]) ∧ (taken.claim .windlass).holder = .station .two) ∧
    (busy.Kept ∧ busy.Takes (order .one 1 2 [0]) ∧ isActive busy.movers.windlass.state = true) ∧
    (faulted.Kept ∧ faulted.Takes (order .one 1 2 [0]) ∧ faulted.movers.windlass.state = .faulted) ∧
    (declared.Kept ∧ declared.Takes (order .one 1 2 [0]) ∧ declared.declaration ≠ none) ∧
    (gone.Kept ∧ gone.Takes (order .one 1 2 [0]) ∧ (gone.module 31).present = false) :=
  ⟨⟨duty_kept, takes _ _ _ _ _ (by decide), takes _ _ _ _ _ (by decide), takes _ _ _ _ _ (by decide),
      takes _ _ _ _ _ (by decide), by decide⟩,
    ⟨kept_of_check _ (by decide), takes_of_check _ _ (by decide), by decide⟩,
    ⟨kept_of_check _ (by decide), takes_of_check _ _ (by decide), by decide⟩,
    ⟨kept_of_check _ (by decide), takes_of_check _ _ (by decide), by decide⟩,
    ⟨kept_of_check _ (by decide), takes_of_check _ _ (by decide), by decide⟩,
    ⟨kept_of_check _ (by decide), takes_of_check _ _ (by decide), by decide⟩,
    ⟨kept_of_check _ (by decide), takes_of_check _ _ (by decide), by decide⟩, kept_of_check _ (by decide),
    takes_of_check _ _ (by decide), by decide⟩

theorem test_hyps_SetChainOutDeclares_completion :
    let frame := inFlight 31 (.home .windlass (some 50))
    let declared :=
      { (owing duty).setMover .windlass { restingMover with state := .unhomed, valid := false, command := some 0 } with
        declaration := some ⟨50, some owed, 31⟩, queue := [frame] }
    let r := reply 31 0 .home [] (some ⟨.stalled, 0, some 50⟩)
    declared.Kept ∧ declared.OneMoverEach ∧ declared.Answers 31 r ∧ declared.Awaits owed ∧
      declared.queue.find? (fun g => g.answeredBy 31 r) = some frame ∧
      declared.declaration = some ⟨50, some owed, 31⟩ ∧ isActive declared.movers.windlass.state = false ∧
      declared.movers.windlass.command = some 0 ∧ ∀ g ∈ declared.queue, g.commands .windlass = true → g.stage ≠ .unsent :=
  ⟨kept_of_check _ (by decide), duty_apart, ⟨rfl, rfl, rfl⟩, ⟨_, List.mem_cons_self, rfl⟩, by decide⟩

/-- The last retry of a hatch, and the fault past it; with NO_RETRY the first fault is the last. -/
theorem test_hyps_ExpiredTimerIsAMotionFault :
    let tried := fun n : Nat => hatchIn { movingHatch with attempts := n }
    (tried 3).heldDown = false ∧ ((tried 3).mover .hatch).travel = some 90000 ∧
      ((tried 3).mover .hatch).stall = some 3000 ∧ ((tried 3).mover .hatch).state = .moving ∧
      ((tried 3).mover .hatch).noRetry = false ∧ ((tried 3).mover .hatch).attempts + 1 = 4 ∧
      ¬(((tried 4).mover .hatch).attempts + 1 ≤ 4) ∧
      ((hatchIn { movingHatch with noRetry := true }).mover .hatch).noRetry = true := by decide

/-- A stalled hatch, in MOVING with retries and without, and in HOMING; the allowance at its edge and past it. -/
theorem test_hyps_ExpiredTimerIsAMotionFault_reports :
    let moves := polledHatch movingHatch
    let last := polledHatch { movingHatch with attempts := 4 }
    let homes := fun total => polledHatch (homingHatch total true)
    (moves.Brings .hatch (hatchReport .stalled (some 300)) ⟨.stalled, 5, some 300⟩ ∧
      (moves.mover .hatch).command = some 5 ∧ (moves.mover .hatch).state = .moving ∧
      moves.slotHolds .hatch 5 = false ∧ (∀ g ∈ moves.queue, g.commands .hatch = true → g.stage ≠ .unsent) ∧ (moves.mover .hatch).seen = [] ∧
      (moves.mover .hatch).noRetry = false ∧ ¬((last.mover .hatch).attempts + 1 ≤ 4)) ∧
    ((homes 0).Brings .hatch (hatchReport .running (some 300)) ⟨.running, 5, some 300⟩ ∧
      ((homes 0).mover .hatch).state = .homing ∧ (homes 0).slotHolds .hatch 5 = false ∧ ((homes 0).mover .hatch).stall = some 3000 ∧
      (hatchReport .running (some 300)).switches.getLsbD (homeSwitchOf .hatch) = false ∧
      ((homes 1150).mover .hatch).homingTravel = some ⟨1150, some 400⟩ ∧ 1150 + distance 400 300 = 1250 ∧
      homingAllowance duty.params.chainLength .hatch = 1250) :=
  ⟨⟨polledHatch_brings _ _ (some 300) 0, by decide⟩, polledHatch_brings _ _ (some 300) 0, by decide⟩

/-- A hatch in SETTLING that reports STALLED, with a retarget's DRIVE unsent behind the poll. -/
theorem test_hyps_ExpiredTimerIsAMotionFault_settling :
    let s := polledHatch { movingHatch with state := .settling, settle := some 500 }
    let waiting := { s with queue := s.queue ++ [QueueFrame.fresh 29 (.drive .hatch 995 5)] }
    waiting.Brings .hatch (hatchReport .stalled (some 1000)) ⟨.stalled, 5, some 1000⟩ ∧
      (waiting.mover .hatch).command = some 5 ∧ waiting.slotHolds .hatch 5 = false ∧
      (waiting.mover .hatch).state = .settling ∧ (waiting.mover .hatch).seen = [] ∧
      waiting.commandUnsent .hatch = true :=
  ⟨{ answers := ⟨rfl, rfl, rfl⟩, apart := duty_apart, strong := by exact (by decide : 3 ≤ (duty.module 29).score),
     drive := rfl, answered := .inl ⟨_, rfl, false, rfl⟩ }, by decide⟩

/-- The same with the first record, a poll of the hatch's module, in flight, and with frames held for want of admission. -/
theorem test_hyps_ExpiredTimerIsAMotionFault_room :
    let s := { polledHatch movingHatch with
      queue := inFlight 29 (.poll false false) :: crowdedBus.queue.drop 1, awaitingRoom := crowdedBus.awaitingRoom }
    s.Brings .hatch (hatchReport .stalled (some 300)) ⟨.stalled, 5, some 300⟩ ∧ s.RoomLaw ∧ s.awaitingRoom ≠ [] ∧
      s.queue.length = 18 ∧ ∀ total r, (polledHatch (homingHatch total r)).RoomLaw :=
  ⟨{ answers := ⟨rfl, rfl, rfl⟩, apart := duty_apart, strong := by exact (by decide : 3 ≤ (duty.module 29).score),
     drive := rfl, answered := .inl ⟨_, rfl, false, rfl⟩ }, crowdedBus_room, by decide, by decide,
    fun _ _ => polledHatch_room _⟩

def settling : State :=
  { hatchIn { movingHatch with state := .settling, position := 1000, settle := some 500, deferred := some ⟨.one, 8, 0⟩ } with
    nextSerial := 1
    stations :=
      { duty.stations with one := { duty.stations.one with intake := [⟨0, 8, codeMove, 0, 4, [1000], .waiting⟩] } }
    cond := { duty.cond with hatchClosed := false, latchMade := false, hatchOpen := true } }

theorem test_hyps_SettleTimeEndsTheMotion :
    (settling.heldDown = false ∧ (settling.mover .hatch).state = .settling ∧ (settling.mover .hatch).settle = some 500 ∧
      (settling.claim .hatch).holder = .station .one ∧ (settling.claim .hatch).ending = .notEnding ∧
      settling.settles .hatch 1000 = true ∧ ∃ e ∈ (settling.station .one).intake, e.serial = 0) ∧
    { settling with cond := { settling.cond with hatchOpen := false } }.settles .hatch 1000 = false := by decide

/-- A target and a settle condition for each row of R50 and R52; a hatch that stops within tolerance, and one that finds its
home switch. -/
theorem test_hyps_SettleTimeEndsTheMotion_reports :
    let moves := polledHatch { movingHatch with seen := [.running] }
    let homes := polledHatch (homingHatch 0 false)
    (settling.settles .hatch 995 = true ∧ settling.settles .hatch 994 = true ∧ duty.settles .hatch 0 = true ∧
      duty.settles .hatch 500 = false ∧ duty.settles .platform 0 = true ∧ duty.settles .platform 395 = false ∧
      duty.settles .windlass 0 = true ∧ { duty with brakeApplied := false }.settles .windlass 5 = false) ∧
    (moves.Brings .hatch (hatchReport .stopped (some 1005)) ⟨.stopped, 5, some 1005⟩ ∧
      (moves.mover .hatch).state = .moving ∧ (moves.mover .hatch).valid = true ∧
      DriveStatus.stopped ∉ (moves.mover .hatch).seen ∧ 1005 - (moves.mover .hatch).target.getD 0 ≤ tolerance .hatch) ∧
    (homes.Brings .hatch (hatchReport .stalled (some 0) 1) ⟨.stalled, 5, some 0⟩ ∧
      (homes.mover .hatch).state = .homing ∧ (homes.mover .hatch).recovery = false ∧
      (hatchReport .stalled (some 0) 1).switches.getLsbD (homeSwitchOf .hatch) = true) :=
  ⟨by decide, ⟨polledHatch_brings _ _ (some 1005) 0, by decide⟩, polledHatch_brings _ _ (some 0) 1, by decide⟩

/-- A recovery homing that finds its switch, its permit passing and failing; a local drive from UNHOMED that stops. -/
theorem test_hyps_SettleTimeEndsTheMotion_ends :
    let homes := fun latch : Bool =>
      ({ owing (polledHatch { homingHatch 0 true with target := some 1000, deferred := some owed }) with
        cond := { duty.cond with latch := latch } } : State)
    let asked := fun s : State =>
      (s.setModule 29 { s.module 29 with score := min 15 ((s.module 29).score + 1) }).setMover .hatch
        { s.mover .hatch with position := 0 }
    let loose := (polledHatch { movingHatch with
        valid := false, noRetry := true, attended := true, live := some ⟨.hatchButton, true⟩ }).setClaim .hatch
      { ClaimRecord.free with holder := .deck }
    (∀ latch, (homes latch).Brings .hatch (hatchReport .running (some 0) 1) ⟨.running, 5, some 0⟩ ∧
      (homes latch).PartnerLaw ∧ (homes latch).Awaits owed ∧ ((homes latch).mover .hatch).state = .homing ∧
      ((homes latch).mover .hatch).recovery = true ∧ ((homes latch).mover .hatch).command = some 5 ∧
      ((homes latch).claim .hatch).holder = .station .one ∧
      (hatchReport .running (some 0) 1).switches.getLsbD (homeSwitchOf .hatch) = true) ∧
    (permitCheck (asked (homes false)) .hatch false (.toward 1000) = none ∧
      permitCheck (asked (homes true)) .hatch false (.toward 1000) = some .permitEstop) ∧
    (loose.Brings .hatch (hatchReport .stopped (some 300)) ⟨.stopped, 5, some 300⟩ ∧ loose.PartnerLaw ∧
      (loose.mover .hatch).state = .moving ∧ (loose.mover .hatch).valid = false ∧
      (loose.claim .hatch).holder = .deck ∧ (loose.claim .hatch).passPending = false) :=
  ⟨fun latch =>
      ⟨{ answers := ⟨rfl, rfl, rfl⟩, apart := duty_apart, strong := by exact (by decide : 3 ≤ (duty.module 29).score),
         drive := rfl, answered := .inl ⟨_, rfl, false, rfl⟩ }, ⟨fun h => absurd h.2 Bool.false_ne_true, fun h => by cases h⟩,
        owing_awaits _, rfl, rfl, rfl, rfl, rfl⟩,
    by decide,
    { answers := ⟨rfl, rfl, rfl⟩, apart := duty_apart, strong := by exact (by decide : 3 ≤ (duty.module 29).score),
      drive := rfl, answered := .inl ⟨_, rfl, false, rfl⟩ }, by unfold State.PartnerLaw; decide, by decide⟩

/-- Confirmed and unconfirmed; at attempt count 4, within tolerance at its edge, and beyond it. -/
theorem test_hyps_RecoveryPauseEndsInARedrive :
    let paused := fun (confirmed : Bool) (attempts : Nat) (position : Int) =>
      hatchIn { movingHatch with
        state := .recovering, attempts := attempts, position := position, pause := some ⟨2000, false, confirmed⟩ }
    (paused false 1 0).Kept ∧ (paused true 1 995).Kept ∧ (paused true 1 994).Kept ∧ (paused true 4 0).Kept ∧
      ((paused true 4 0).mover .hatch).state = .recovering ∧ ((paused true 4 0).mover .hatch).target = some 1000 ∧
      ((paused true 4 0).mover .hatch).linkLost = false ∧
      permitCheck (paused true 4 0) .hatch false (.toward 1000) = none ∧
      withinTolerance .hatch 995 1000 = true ∧ withinTolerance .hatch 994 1000 = false :=
  ⟨kept_of_check _ (by decide), kept_of_check _ (by decide), kept_of_check _ (by decide), kept_of_check _ (by decide),
    by decide⟩

/-- The pause over with the latch set, and with the link lost; the halt frame confirmed before the 2 s and after them. -/
theorem test_hyps_RecoveryPauseEndsInARedrive_ends :
    let paused := fun (elapsed confirmed lost : Bool) =>
      owing (hatchIn { movingHatch with
        state := .recovering, attempts := 1, position := 300, linkLost := lost, deferred := some owed
        pause := some ⟨2000, elapsed, confirmed⟩ })
    let latched := { paused false true false with cond := { duty.cond with latch := true } }
    let halting := fun elapsed : Bool =>
      { paused elapsed false false with
        haltSlots := ⟨some ⟨some 4, 1, .inFlight⟩, none, none⟩, sideFlights := [⟨29, 4, 20, .halt .hatch⟩] }
    let r := reply 29 4 .halt [] (some ⟨.stopped, 4, some 310⟩)
    (latched.Kept ∧ latched.Awaits owed ∧ permitCheck latched .hatch false (.toward 1000) = some .permitEstop ∧
      (latched.claim .hatch).holder = .station .one) ∧
    ((paused false true true).Kept ∧ ((paused false true true).mover .hatch).linkLost = true) ∧
    ∀ elapsed, (halting elapsed).Kept ∧ (halting elapsed).OneMoverEach ∧ (halting elapsed).Answers 29 r ∧
      (halting elapsed).queue.find? (fun g => g.answeredBy 29 r) = none ∧
      (halting elapsed).sideFlights.find? (fun y => y.answeredBy 29 r) = some ⟨29, 4, 20, .halt .hatch⟩ ∧
      (halting elapsed).slotHolds .hatch r.seq = true ∧
      ((halting elapsed).mover .hatch).pause = some ⟨2000, elapsed, false⟩ ∧
      permitCheck
        (((halting elapsed).setModule 29 { duty.module 29 with score := min 15 ((duty.module 29).score + 1) }).setMover
          .hatch { (halting elapsed).mover .hatch with position := 310 }) .hatch false (.toward 1000) = none :=
  ⟨⟨kept_of_check _ (by decide), ⟨_, List.mem_cons_self, rfl⟩, by decide⟩, ⟨kept_of_check _ (by decide), by decide⟩,
    fun e => by
      cases e <;> exact ⟨kept_of_check _ (by decide), duty_apart, ⟨rfl, rfl, rfl⟩, by decide⟩⟩

/-! ### Hypotheses: held orders -/

theorem test_hyps_HeldOrdersWaitEndOrAreApplied :
    let two := { holding with
      windows := holding.windows.set 4 ⟨true, 0, 0, true⟩, held := [{ heldEntry with marks := 0x11 }] }
    (two.Kept ∧ two.HeldLaw ∧ two.heldDown = false ∧ { heldEntry with marks := 0x11 } ∈ two.held ∧
      two.Takes (order .one 1 0 []) ∧
      (0x11#6 &&& (markOf (windowIndex .one false) ||| markOf (windowIndex .one true))) ≠ 0 ∧
      (0x11#6 &&& ~~~(markOf (windowIndex .one false) ||| markOf (windowIndex .one true))) ≠ 0) ∧
    (holding.Kept ∧ holding.HeldLaw ∧ heldEntry ∈ holding.held ∧ holding.Takes (order .one 1 0 []) ∧
      (∃ e ∈ (holding.station .two).intake, e.serial = 0) ∧
      (∀ e ∈ (holding.station .two).intake, e.serial = 0 → e.code = heldEntry.what.code) ∧
      heldEntry.marks &&& ~~~(markOf (windowIndex .one false) ||| markOf (windowIndex .one true)) = 0 ∧
      ∃ e, holding.writable? 0 = some e ∧ levelValid e.kind 500 = true) :=
  ⟨⟨kept_of_check _ (by decide), by unfold State.HeldLaw; decide, by decide, by decide, takes_of_check _ _ (by decide),
      by decide⟩,
    kept_of_check _ (by decide), holding_held, by decide, takes_of_check _ _ (by decide), by decide, by decide, by decide,
    _, rfl, by decide⟩

/-- A number no entry has, a word too many, and a station none of whose windows is marked. -/
theorem test_hyps_HeldOrdersWaitEndOrAreApplied_refusals :
    (∀ o ∈ [order .one 1 1 [], order .one 1 256 [], order .one 1 0 [0], order .three 1 0 []],
      holding.Kept ∧ holding.Takes o) ∧ holding.HeldLaw ∧ heldEntry ∈ holding.held ∧ heldEntry.hold.toNat = 0 ∧
      ∀ i : Fin 6, heldEntry.marks.getLsbD i.val = true → windowOwner i ≠ .three :=
  ⟨meet _ _ (by decide), holding_held, by decide, by decide, by decide⟩

/-- CONCUR of the same entries by the owner of their one window. -/
theorem test_hyps_HeldOrdersWaitEndOrAreApplied_releases :
    ∀ h ∈ releasing.held,
      releasing.Kept ∧ releasing.HeldLaw ∧ releasing.Takes (order .one 1 h.hold.toNat []) ∧ h.what.InWords ∧
        h.marks &&& ~~~(markOf (windowIndex .one false) ||| markOf (windowIndex .one true)) = 0 :=
  fun h hh => ⟨kept_of_check _ (by decide), by unfold State.HeldLaw; decide, takes_of_check _ _ rfl,
    releasing_inWords h hh,
    (by decide : ∀ h ∈ releasing.held,
      h.marks &&& ~~~(markOf (windowIndex .one false) ||| markOf (windowIndex .one true)) = 0) h hh⟩

/-! ### Hypotheses: the field link -/

theorem test_hyps_FenceMarksWhatIsWritten :
    let busy := { duty with queue := [inFlight 0 (.levels [⟨0, ⟨0, 0⟩, 0, some 300, .live⟩])] }
    (duty.Kept ∧ duty.Takes (order .one 1 0 []) ∧ ∀ f ∈ duty.queue, f.isPoll = true) ∧
    (busy.Kept ∧ busy.Takes (order .one 1 0 []) ∧ ∃ f ∈ busy.queue, f.isPoll = false) :=
  ⟨⟨duty_kept, takes _ _ _ _ _ (by decide), by decide⟩, kept_of_check _ (by decide), takes_of_check _ _ (by decide),
    by decide⟩

theorem test_hyps_FenceMarksWhatIsWritten_refusals :
    ∀ o ∈ [order .one 1 1 [], order .one 1 0 [0]], duty.Kept ∧ duty.Takes o := meet _ _ (by decide)

/-- The last binding at the largest level; with 17 records in the queue and with 18. -/
theorem test_hyps_TerminalWriteIsHanded :
    let full := fun n : Nat => { duty with queue := List.replicate n (QueueFrame.fresh 3 (.poll false false)) }
    (full 17).Kept ∧ (full 18).Kept ∧ (full 17).Takes (order .one 1 511 [1000]) ∧ (full 18).Takes (order .one 1 511 [1000]) ∧
      511 = 16 * (31 : Fin 32).val + (15 : Fin 16).val ∧ (duty.profile .one).maint = true ∧
      ∀ e ∈ duty.substs, ¬(e.active = true ∧ e.spare = ⟨31, 15⟩) :=
  ⟨kept_of_check _ (by decide), kept_of_check _ (by decide), takes_of_check _ _ (by decide), takes_of_check _ _ (by decide),
    by decide⟩

/-- Targets and levels next to their ranges, no MAINT, and the spare of an ACTIVE entry. -/
theorem test_hyps_TerminalWriteIsHanded_refusals :
    let poor := without { every with maint := false }
    let spared := { duty with substs := [⟨⟨0, 0⟩, ⟨6, 0⟩, true⟩] }
    (∀ o ∈ [order .one 1 512 [0], order .one 1 511 [], order .one 1 511 [-1], order .one 1 511 [1001]],
      duty.Kept ∧ duty.Takes o) ∧
    ((poor.Kept ∧ poor.Takes (order .one 1 511 [0])) ∧ (poor.profile .one).maint = false) ∧
    ((spared.Kept ∧ spared.Takes (order .one 1 96 [0])) ∧ spared.SpareLaw) :=
  ⟨meet _ _ (by decide), ⟨meets _ _ (by decide), by decide⟩, meets _ _ (by decide),
    by decide, by decide, by decide, fun e he p x hx =>
      (by decide : ∀ e ∈ [(⟨⟨0, 0⟩, ⟨6, 0⟩, true⟩ : SubstEntry)], ∀ x ∈ duty.points, e.spare ≠ x.binding) e he x
        (mem_of_point duty p x hx)⟩

def voided : State := { duty with substs := [⟨⟨5, 0⟩, ⟨6, 0⟩, false⟩] }

theorem voided_spares : voided.SpareLaw :=
  ⟨by decide, by decide, by decide, fun e he p x hx => by
    have := mem_of_point voided p x hx
    revert e x
    intro e he x _ hm
    have key : ∀ e ∈ voided.substs, ∀ x ∈ voided.points, e.spare ≠ x.binding := by decide
    exact key e he x hm⟩

theorem test_hyps_SparesAreAssignedAndReleased :
    (duty.Kept ∧ duty.SpareLaw ∧ duty.Takes (order .one 1 0 [0, 12]) ∧ bindingOf 0 = some ⟨0, 0⟩ ∧
      bindingOf 12 = some ⟨0, 12⟩ ∧ (duty.profile .one).maint = true ∧
      (∀ p e, duty.point? p = some e → e.binding ≠ ⟨0, 12⟩) ∧ duty.substs.length < 16 ∧
      duty.pointsBoundTo ⟨0, 0⟩ = [0]) ∧
    (voided.Kept ∧ voided.SpareLaw ∧ voided.Takes (order .one 1 0 [80]) ∧ bindingOf 80 = some ⟨5, 0⟩ ∧
      ∃ e ∈ voided.substs, e.failed = ⟨5, 0⟩ ∧ e.active = false) :=
  ⟨⟨duty_kept, duty_spares, takes _ _ _ _ _ (by decide), by decide, by decide, by decide,
      fun p e h => (by decide : ∀ e ∈ duty.points, e.binding ≠ ⟨0, 12⟩) e (mem_of_point duty p e h), by decide, by decide⟩,
    kept_of_check _ (by decide), voided_spares, takes_of_check _ _ (by decide), by decide, by decide⟩

/-- The law of spares over the points on duty, for entries whose spares these points do not have. -/
theorem spares_on_duty (l : List SubstEntry) (s : State) (hs : s.substs = l) (hp : s.points = duty.points)
    (h : decide ((l.map fun e => e.failed).Nodup ∧ (l.map fun e => e.spare).Nodup ∧
      (∀ e ∈ l, ∀ x ∈ l, e.spare ≠ x.failed) ∧ ∀ e ∈ l, ∀ x ∈ duty.points, e.spare ≠ x.binding) = true) : s.SpareLaw := by
  obtain ⟨h1, h2, h3, h4⟩ := of_decide_eq_true h
  refine ⟨hs ▸ h1, hs ▸ h2, hs ▸ h3, fun e he p x hx => ?_⟩
  exact h4 e (hs ▸ he) x (hp ▸ mem_of_point s p x hx)

/-- An entry that is VOID takes a new spare, its own and another; an ACTIVE one is released with an item of its point on the
spare in flight. -/
theorem test_hyps_SparesAreAssignedAndReleased_moves :
    let void := { duty with substs := [⟨⟨0, 0⟩, ⟨6, 0⟩, false⟩] }
    let active := { duty with
      substs := [⟨⟨0, 0⟩, ⟨6, 0⟩, true⟩], queue := [inFlight 6 (.levels [⟨0, ⟨6, 0⟩, 5, some 300, .live⟩])] }
    ((∀ o ∈ [order .one 1 0 [0, 96], order .one 1 0 [0, 12]], void.Kept ∧ void.Takes o) ∧ void.SpareLaw ∧ void.OpenLaw ∧
      bindingOf 96 = some ⟨6, 0⟩ ∧ (∃ e ∈ void.substs, e.failed = ⟨0, 0⟩) ∧
      ∀ e ∈ void.substs, ¬(e.active = true ∧ e.failed = ⟨0, 0⟩) ∧ e.spare ≠ ⟨0, 0⟩) ∧
    ((active.Kept ∧ active.Takes (order .one 1 0 [0])) ∧ active.SpareLaw ∧ active.OpenLaw ∧
      active.pointsBoundTo ⟨0, 0⟩ = [0] ∧ ∃ e ∈ active.substs, e.failed = ⟨0, 0⟩ ∧ e.active = true) :=
  ⟨⟨meet _ _ (by decide), spares_on_duty _ _ rfl rfl (by decide), by unfold State.OpenLaw; decide, by decide⟩,
    meets _ _ (by decide), spares_on_duty _ _ rfl rfl (by decide), by unfold State.OpenLaw; decide, by decide⟩

/-- Each refusal of ASSIGN_SPARE with what passes before it, and those of RELEASE_SPARE. -/
theorem test_hyps_SparesAreAssignedAndReleased_refusals :
    let poor := without { every with maint := false }
    let mapped := { duty with substs := [⟨⟨0, 0⟩, ⟨6, 0⟩, true⟩] }
    let full := { duty with
      substs := (List.range 16).map fun i => ⟨⟨9, Fin.ofNat 16 i⟩, ⟨10, Fin.ofNat 16 i⟩, true⟩ }
    (∀ o ∈ [order .one 1 1 [0, 12], order .one 1 0 [0], order .one 1 0 [512, 12], order .one 1 0 [0, 512],
        order .one 1 0 [0, 0], order .one 1 0 [2, 1], order .one 1 1 [0], order .one 1 0 [512]], duty.Kept ∧ duty.Takes o) ∧
    duty.SpareLaw ∧ (duty.point? 1).map (fun x => x.binding) = bindingOf 1 ∧
    ((poor.Kept ∧ poor.Takes (order .one 1 0 [0, 12])) ∧ (poor.profile .one).maint = false) ∧
    ((∀ o ∈ [order .one 1 0 [0, 12], order .one 1 0 [96, 12], order .one 1 0 [2, 96], order .one 1 0 [2, 0]],
        mapped.Kept ∧ mapped.Takes o) ∧ mapped.SpareLaw) ∧
    ((full.Kept ∧ full.Takes (order .one 1 0 [0, 12])) ∧ full.SpareLaw ∧ full.substs.length = 16) ∧
    ((voided.Kept ∧ voided.Takes (order .one 1 0 [81])) ∧ ∀ e ∈ voided.substs, e.failed ≠ ⟨5, 1⟩) :=
  ⟨meet _ _ (by decide), duty_spares, by decide, ⟨meets _ _ (by decide), by decide⟩,
    ⟨meet _ _ (by decide), spares_on_duty _ _ rfl rfl (by decide)⟩,
    ⟨meets _ _ (by decide), spares_on_duty _ _ rfl rfl (by decide), by decide⟩, meets _ _ (by decide), by decide⟩

/-- Nothing ready; a halt frame before its first send; a LEVELS frame of a point that is QUEUED. -/
theorem test_hyps_FrameSendSendsTheReadyFrame :
    let halting := { moving with haltSlots := ⟨some ⟨none, 0, .waitingToSend⟩, none, none⟩ }
    let items : List Item := [⟨0, ⟨0, 0⟩, 5, none, .live⟩]
    let queued := { duty with queue := [QueueFrame.fresh 0 (.levels items)] }
    (duty.Kept ∧ duty.heldDown = false ∧ duty.ready = none) ∧
    (halting.Kept ∧ halting.haltSlots.get .hatch = some ⟨none, 0, .waitingToSend⟩ ∧
      allMovers.takeWhile (fun k => k != .hatch) = []) ∧
    (queued.Kept ∧ queued.ready = some (.frame 0 (QueueFrame.fresh 0 (.levels items)))) :=
  ⟨⟨duty_kept, by decide⟩, ⟨kept_of_check _ (by decide), by decide⟩, kept_of_check _ (by decide), by decide⟩

/-- What may go: a frame behind one of another module that has no room; a resend; a motion poll; the first send of a DRIVE
and of a HOME; a TERMINAL_WRITE; a return poll of an ABSENT module. -/
theorem test_hyps_FrameSendSendsTheReadyFrame_frames :
    let next := QueueFrame.fresh 3 (.levels [⟨0, ⟨3, 0⟩, 0, none, .live⟩])
    let slow := { duty with
      modules := duty.modules.set 0 { duty.module 0 with score := 7 }
      queue := [inFlight 0 (.poll false false), QueueFrame.fresh 0 (.poll false false), next] }
    let again : QueueFrame := { inFlight 3 next.body with stage := .awaitingResend }
    let resent := { duty with queue := [again] }
    let polling := hatchIn { movingHatch with poll := .due }
    let drives := { moving with queue := [QueueFrame.fresh 29 (.drive .hatch 1000 5)] }
    let homes := { hatchIn (homingHatch 0 false) with queue := [QueueFrame.fresh 29 (.home .hatch none)] }
    let writes := { duty with queue := [QueueFrame.fresh 3 (.terminalWrite 2 5 ⟨.one, 9, 0⟩)] }
    let gone := { duty with
      modules := duty.modules.set 3 { duty.module 3 with present := false }
      queue := [QueueFrame.fresh 3 (.poll false true)] }
    (slow.ready = some (.frame 2 next) ∧ slow.inFlightCount 0 = 1 ∧ slow.inFlightCount 3 = 0) ∧
    (resent.Kept ∧ resent.ready = some (.frame 0 again) ∧ again.seq = some 0 ∧ again.isPoll = false) ∧
    (polling.Kept ∧ (polling.mover .hatch).poll = .due ∧ polling.sideFlights = []) ∧
    (drives.Kept ∧ drives.ready = some (.frame 0 (QueueFrame.fresh 29 (.drive .hatch 1000 5))) ∧
      (QueueFrame.fresh 29 (.drive .hatch 1000 5)).commands .hatch = true) ∧
    (homes.Kept ∧ homes.ready = some (.frame 0 (QueueFrame.fresh 29 (.home .hatch none)))) ∧
    (writes.Kept ∧ writes.ready = some (.frame 0 (QueueFrame.fresh 3 (.terminalWrite 2 5 ⟨.one, 9, 0⟩)))) ∧
    (gone.Kept ∧ gone.ready = some (.frame 0 (QueueFrame.fresh 3 (.poll false true))) ∧
      (gone.module 3).present = false) :=
  ⟨by decide, ⟨kept_of_check _ (by decide), by decide⟩, ⟨kept_of_check _ (by decide), by decide⟩,
    ⟨kept_of_check _ (by decide), by decide⟩, ⟨kept_of_check _ (by decide), by decide⟩,
    ⟨kept_of_check _ (by decide), by decide⟩, kept_of_check _ (by decide), by decide⟩

/-- The frame at index 0 of a queue of one is the first that may be sent. -/
theorem test_hyps_FrameSendSendsTheReadyFrame_first :
    let frame := QueueFrame.fresh 0 (.poll false false)
    let s := { duty with queue := [frame] }
    s.FirstReady 0 frame ∧ (∀ m h, s.haltSlots.get m = some h → h.stage = .inFlight) ∧
      (∀ m, (s.mover m).poll ≠ .due) ∧ (s.queue.filter fun g => g.stage.isInFlight).length < 12 := by
  refine ⟨⟨rfl, ⟨rfl, .inl rfl⟩, by unfold State.Room; decide, ?_, fun j g hj => absurd hj (Nat.not_lt_zero j)⟩, ?_, ?_,
    by decide⟩
  · rintro ⟨m, hm, _⟩
    cases m <;> cases hm
  · intro m h hm
    cases m <;> cases hm
  · intro m
    cases m <;> decide

/-- The first send of a hatch's halt frame with its DRIVE in flight, and with one that awaits its resend. -/
theorem test_hyps_FrameSendSendsTheReadyFrame_halts :
    let drive := inFlight 29 (.drive .hatch 1000 5)
    let s := fun f : QueueFrame =>
      ({ moving with
        haltSlots := ⟨some ⟨none, 0, .waitingToSend⟩, none, none⟩, queue := [f, inFlight 3 (.poll false false)] } : State)
    (∀ f ∈ [drive, { drive with stage := .awaitingResend }], (s f).Kept ∧ (s f).OpenLaw) ∧
      drive.commands .hatch = true ∧ drive.stage.isInFlight = true ∧
      (s drive).haltSlots.get .hatch = some ⟨none, 0, .waitingToSend⟩ ∧
      ∀ f ∈ (s drive).queue, f.commands .hatch = true → f.stage ≠ .awaitingResend :=
  ⟨fun f hf => by
      rcases List.mem_cons.1 hf with h | h
      · subst h; exact ⟨kept_of_check _ (by decide), by unfold State.OpenLaw; decide⟩
      · cases List.mem_singleton.1 h; exact ⟨kept_of_check _ (by decide), by unfold State.OpenLaw; decide⟩, by decide⟩

theorem test_hyps_TimelyReplyRaisesTheScore :
    let polled := { duty with queue := [inFlight 29 (.poll false false)] }
    polled.Kept ∧ polled.heldDown = false ∧
      polled.queue.find? (fun g => g.answeredBy 29 (reply 29 0 .poll [])) = some (inFlight 29 (.poll false false)) ∧
      (polled.module 29).present = true :=
  ⟨kept_of_check _ (by decide), by decide⟩

/-- A LEVELS frame of one item answered APPLIED, FAULT and NOT_FITTED, its point's binding a spare in force. -/
theorem test_hyps_TimelyReplyRaisesTheScore_levels :
    let item : Item := ⟨0, ⟨6, 0⟩, 5, some 300, .live⟩
    let spared := { duty with
      substs := [⟨⟨0, 0⟩, ⟨6, 0⟩, true⟩], queue := [inFlight 6 (.levels [item])] }
    (∀ res, spared.Answers 6 (reply 6 0 .levels [res])) ∧ spared.Kept ∧ (∀ m, spared.params.modules.get m ≠ 6) ∧
      (∀ res ∈ [ItemResult.applied, .fault, .notFitted],
        spared.queue.find? (fun g => g.answeredBy 6 (reply 6 0 .levels [res])) = some (inFlight 6 (.levels [item]))) ∧
      spared.SpareLaw ∧ (∃ y ∈ spared.substs, y.active = true ∧ y.spare = item.binding) ∧
      ∃ e, spared.writable? 0 = some e ∧ spared.bindingInForce e = item.binding :=
  ⟨fun _ => ⟨rfl, rfl, rfl⟩, kept_of_check _ (by decide), fun m => by cases m <;> decide, by decide,
    ⟨by decide, by decide, by decide, fun e he p x hx =>
      (by decide : ∀ e ∈ [(⟨⟨0, 0⟩, ⟨6, 0⟩, true⟩ : SubstEntry)], ∀ x ∈ duty.points, e.spare ≠ x.binding) e he x
        (mem_of_point duty p x hx)⟩, by decide, ⟨_, rfl, by decide⟩⟩

/-- A latch check, a TERMINAL_WRITE, a drive report of another command, and a return poll answered. -/
theorem test_hyps_TimelyReplyRaisesTheScore_others :
    let checked := { duty with latchCheck := true, queue := [inFlight 29 (.poll true false)] }
    let written := { owing duty with queue := [inFlight 3 (.terminalWrite 2 5 owed)] }
    let gone := { duty with
      modules := duty.modules.set 3 { duty.module 3 with present := false, score := 0 }
      queue := [inFlight 3 (.poll false true)] }
    let other := { polledHatch movingHatch with movers := ⟨{ movingHatch with command := some 9 }, restingMover, restingMover⟩ }
    (checked.Kept ∧ checked.Answers 29 (reply 29 0 .poll []) ∧
      checked.queue.find? (fun g => g.answeredBy 29 (reply 29 0 .poll [])) = some (inFlight 29 (.poll true false))) ∧
    (written.Kept ∧ written.Answers 3 (reply 3 0 .terminalWrite [.fault]) ∧ written.Awaits owed ∧
      written.queue.find? (fun g => g.answeredBy 3 (reply 3 0 .terminalWrite [.fault])) =
        some (inFlight 3 (.terminalWrite 2 5 owed))) ∧
    (gone.Kept ∧ gone.heldDown = false ∧ (reply 3 0 .poll []).module.toNat = 3 ∧ (gone.module 3).present = false ∧
      gone.queue.find? (fun g => g.answeredBy 3 (reply 3 0 .poll [])) = some (inFlight 3 (.poll false true))) ∧
    (other.Brings .hatch (hatchReport .stalled (some 310)) ⟨.stalled, 5, some 310⟩ ∧
      (other.mover .hatch).command ≠ some 5 ∧ other.slotHolds .hatch 5 = false) :=
  ⟨⟨kept_of_check _ (by decide), ⟨rfl, rfl, rfl⟩, by decide⟩,
    ⟨kept_of_check _ (by decide), ⟨rfl, rfl, rfl⟩, ⟨_, List.mem_cons_self, rfl⟩, by decide⟩,
    ⟨kept_of_check _ (by decide), by decide⟩,
    { answers := ⟨rfl, rfl, rfl⟩, apart := duty_apart, strong := by exact (by decide : 3 ≤ (duty.module 29).score),
      drive := rfl, answered := .inl ⟨_, rfl, false, rfl⟩ }, by decide⟩

/-- A reply of module 5, of the first address that names no module, of an ABSENT module, and one byte short. -/
theorem test_hyps_LateAndDiscardedReplies :
    let gone := { duty with modules := duty.modules.set 31 { duty.module 31 with present := false } }
    (duty.Kept ∧ duty.heldDown = false ∧ (reply 5 0 .poll []).module.toNat = 5 ∧ (∀ m, duty.params.modules.get m ≠ 5) ∧
      (reply 5 0 .poll []).drive = none) ∧
    32 ≤ (reply 32 0 .poll []).module.toNat ∧
    (gone.Kept ∧ (reply 31 0 .poll []).module.toNat = 31 ∧ (gone.module 31).present = false) ∧
    checkWordRight [1, 2, 3] = false :=
  ⟨⟨duty_kept, by decide, by decide, fun m => by cases m <;> decide, by decide⟩, by decide,
    ⟨kept_of_check _ (by decide), by decide⟩, by decide⟩

/-- The hatch's module replies late and timely, with the platform at rest, moving, and RECOVERING with its halt frame
confirmed; the resting windlass reports the count 4 from its creep reference, 5, and 5 again. -/
theorem test_hyps_LateAndDiscardedReplies_switches :
    let r := { reply 29 0 .poll [] (some ⟨.stopped, 9, some 0⟩) with switches := 4 }
    let polled := { duty with queue := [inFlight 29 (.poll false false)] }
    let moves := polled.setMover .platform { movingHatch with target := some 400 }
    let pauses := (owing polled).setMover .platform
      { movingHatch with state := .recovering, deferred := some owed, pause := some ⟨2000, false, true⟩ }
    let at_ := fun p : Int => reply 31 0 .poll [] (some ⟨.stopped, 9, some (Word.ofInt p)⟩)
    (polled.Reports .hatch r (.lateReply r) ∧ moves.Reports .hatch r (.timelyReply r) ∧ moves.OneMoverEach ∧
      isMotion (moves.mover .platform).state = true ∧ partnerOf .hatch = some .platform ∧
      ¬(r.switches.getLsbD 0 = true ∨ r.switches.getLsbD 1 = true)) ∧
    (pauses.Reports .hatch r (.lateReply r) ∧ pauses.Awaits owed ∧ (pauses.mover .platform).state = .recovering) ∧
    (∀ p, duty.Reports .windlass (at_ p) (.lateReply (at_ p))) ∧ isActive duty.movers.windlass.state = false ∧
      duty.declaration = none ∧ duty.creepReference = 0 ∧ duty.creepFlag = false :=
  ⟨⟨⟨⟨rfl, rfl, rfl⟩, .inl rfl⟩, ⟨⟨rfl, rfl, rfl⟩, .inr ⟨rfl, by decide, _, rfl, false, rfl⟩⟩, duty_apart, by decide⟩,
    ⟨⟨⟨rfl, rfl, rfl⟩, .inl rfl⟩, ⟨_, List.mem_cons_self, rfl⟩, by decide⟩,
    fun _ => ⟨⟨rfl, rfl, rfl⟩, .inl rfl⟩, by decide⟩

/-- Scores on both sides of the loss: 3 stays above 0, 2 falls to it. -/
theorem test_hyps_ExpiredDeadlineLowersTheScore :
    let frame := inFlight 5 (.levels [⟨0, ⟨5, 0⟩, 0, some 1, .live⟩])
    let at_ := fun n : Nat =>
      { duty with queue := [frame], modules := duty.modules.set 5 { duty.module 5 with score := n } }
    (at_ 3).Kept ∧ (at_ 2).Kept ∧ (at_ 3).heldDown = false ∧
      (at_ 3).queue.find? (QueueFrame.inFlightAs 5 0) = some frame ∧ frame.stage = .inFlight 20 ∧
      ((at_ 3).module 5).present = true ∧ ((at_ 3).module 5).score = 3 ∧ ((at_ 2).module 5).score = 2 ∧ frame.attempt < 2 ∧
      frame.retired = false ∧ frame.isPoll = false ∧
      (∀ a b, duty.params.modules.get a = duty.params.modules.get b → a = b) ∧
      ∀ m, duty.params.modules.get m = 5 → isMotion (duty.mover m).state = false :=
  ⟨kept_of_check _ (by decide), kept_of_check _ (by decide), by decide, by decide, by decide, by decide, by decide,
    by decide, by decide, by decide, by decide, fun a b => by cases a <;> cases b <;> decide,
    fun m => by cases m <;> decide⟩

/-- Frames lost at attempt 2, each with the last score that keeps the module PRESENT; a halt frame and a motion poll; an
absence that takes a point and an active mover. -/
theorem test_hyps_ExpiredDeadlineLowersTheScore_losses :
    let lost := fun (k : Fin 32) (body : FrameBody) => ({ inFlight k body with attempt := 2 } : QueueFrame)
    let scored := fun (s : State) (k : Fin 32) (n : Nat) =>
      ({ s with modules := s.modules.set k { s.module k with score := n } } : State)
    let levels := lost 0 (.levels [⟨0, ⟨0, 0⟩, 0, some 1, .live⟩])
    let written := lost 3 (.terminalWrite 2 5 owed)
    let preset := lost 31 (.home .windlass (some 50))
    let s1 := scored { duty with queue := [levels] } 0 3
    let s2 := scored { owing duty with queue := [written] } 3 3
    let s3 := scored { owing duty with queue := [preset], declaration := some ⟨50, some owed, 31⟩ } 31 3
    let s4 := scored { duty with
      haltSlots := ⟨some ⟨some 4, 1, .inFlight⟩, none, none⟩
      sideFlights := [⟨29, 4, 20, .halt .hatch⟩, ⟨30, 5, 20, .motionPoll .platform⟩] } 29 3
    let s5 := scored { moving with queue := [inFlight 29 (.drive .hatch 1000 5)] } 29 2
    (s1.Kept ∧ s1.OneMoverEach ∧ s1.queue.find? (QueueFrame.inFlightAs 0 0) = some levels ∧ levels.attempt = 2 ∧
      (s1.module 0).score = 3 ∧ levels.retired = false ∧ ∃ e, s1.writable? 0 = some e ∧ e.writePending = false) ∧
    (s2.Kept ∧ s2.queue.find? (QueueFrame.inFlightAs 3 0) = some written ∧ s2.Awaits owed) ∧
    (s3.Kept ∧ s3.queue.find? (QueueFrame.inFlightAs 31 0) = some preset ∧ s3.Awaits owed ∧
      isMotion (s3.mover .windlass).state = false) ∧
    (s4.Kept ∧ s4.queue.find? (QueueFrame.inFlightAs 29 4) = none ∧
      s4.sideFlights.find? (fun y => y.module == 29 && y.seq == 4) = some ⟨29, 4, 20, .halt .hatch⟩ ∧
      s4.sideFlights.find? (fun y => y.module == 30 && y.seq == 5) = some ⟨30, 5, 20, .motionPoll .platform⟩) ∧
    (s5.Kept ∧ s5.queue.find? (QueueFrame.inFlightAs 29 0) = some (inFlight 29 (.drive .hatch 1000 5)) ∧
      (s5.module 29).score ≤ 2 ∧ isActive (s5.mover .hatch).state = true) :=
  ⟨⟨kept_of_check _ (by decide), duty_apart, by decide, by decide, by decide, by decide, ⟨_, rfl, by decide⟩⟩,
    ⟨kept_of_check _ (by decide), by decide, ⟨_, List.mem_cons_self, rfl⟩⟩,
    ⟨kept_of_check _ (by decide), by decide, ⟨_, List.mem_cons_self, rfl⟩, by decide⟩,
    ⟨kept_of_check _ (by decide), by decide⟩, kept_of_check _ (by decide), by decide⟩

/-- The DRIVE and the HOME of a moving hatch lost at the last score that leaves the link strong; the same at the scores on
both sides of a weak one; a fence that counts the loss. -/
theorem test_hyps_ExpiredDeadlineLowersTheScore_motions :
    let lost := fun (body : FrameBody) (marks : List Nat) =>
      ({ inFlight 29 body with attempt := 2, marks := marks } : QueueFrame)
    let at_ := fun (r : MoverRecord) (f : QueueFrame) (n : Nat) =>
      ({ hatchIn r with queue := [f], modules := duty.modules.set 29 { duty.module 29 with score := n } } : State)
    let drive := lost (.drive .hatch 1000 5) []
    let home := lost (.home .hatch none) []
    let fenced := { owing (at_ movingHatch (lost (.drive .hatch 1000 5) [0]) 6) with fences := [⟨owed, [], 0⟩] }
    let polling := { at_ movingHatch drive 5 with queue := [], sideFlights := [⟨29, 4, 20, .motionPoll .hatch⟩] }
    let retired := at_ duty.movers.hatch { drive with retired := true } 3
    (∀ n ∈ [6, 5, 3], (at_ movingHatch drive n).Kept ∧ (at_ (homingHatch 0 false) home n).Kept) ∧
    (∀ n, (at_ movingHatch drive n).queue.find? (QueueFrame.inFlightAs 29 0) = some drive ∧
      (at_ movingHatch drive n).OneMoverEach ∧ drive.stage = .inFlight 20 ∧ drive.attempt = 2 ∧ drive.retired = false ∧
      isMotion ((at_ movingHatch drive n).mover .hatch).state = true ∧ drive.commands .hatch = true ∧
      (at_ (homingHatch 0 false) home n).queue.find? (QueueFrame.inFlightAs 29 0) = some home ∧
      isMotion ((at_ (homingHatch 0 false) home n).mover .hatch).state = true ∧ home.commands .hatch = true) ∧
    ((at_ movingHatch drive 6).module 29).score = 6 ∧ ((at_ movingHatch drive 5).module 29).score = 5 ∧
    (fenced.Kept ∧ fenced.Awaits owed ∧ (⟨owed, [], 0⟩ : FenceEntry) ∈ fenced.fences ∧
      ∃ f ∈ fenced.queue, f.marks.contains owed.serial = true) ∧
    (polling.Kept ∧ polling.sideFlights.find? (fun y => y.module == 29 && y.seq == 4) =
      some ⟨29, 4, 20, .motionPoll .hatch⟩) ∧
    (retired.Kept ∧ retired.queue.find? (QueueFrame.inFlightAs 29 0) = some { drive with retired := true } ∧
      isMotion (retired.mover .hatch).state = false) :=
  ⟨fun n hn => by
      rcases List.mem_cons.1 hn with h | h
      · subst h; exact ⟨kept_of_check _ (by decide), kept_of_check _ (by decide)⟩
      · rcases List.mem_cons.1 h with h | h
        · subst h; exact ⟨kept_of_check _ (by decide), kept_of_check _ (by decide)⟩
        · cases List.mem_singleton.1 h; exact ⟨kept_of_check _ (by decide), kept_of_check _ (by decide)⟩,
    fun _ => ⟨rfl, duty_apart, rfl, rfl, rfl, rfl, rfl, rfl, rfl, rfl⟩, by decide, by decide,
    ⟨kept_of_check _ (by decide), ⟨_, List.mem_cons_self, rfl⟩, List.mem_cons_self, by decide⟩,
    ⟨kept_of_check _ (by decide), by decide⟩, kept_of_check _ (by decide), by decide⟩

/-- A motion poll and a halt frame at a score of 2 and of 1: the module goes ABSENT. -/
theorem test_hyps_ExpiredDeadlineLowersTheScore_absence :
    let s := fun (kind : SideKind) (n : Nat) =>
      ({ moving with
        sideFlights := [⟨29, 4, 20, kind⟩], haltSlots := ⟨some ⟨some 4, 1, .inFlight⟩, none, none⟩
        modules := duty.modules.set 29 { duty.module 29 with score := n } } : State)
    ∀ kind, (∀ n, (s kind n).Kept ∧ (s kind n).OneMoverEach ∧ (s kind n).heldDown = false ∧
        (s kind n).queue.find? (QueueFrame.inFlightAs 29 4) = none ∧
        (s kind n).sideFlights.find? (fun y => y.module == 29 && y.seq == 4) = some ⟨29, 4, 20, kind⟩) ∧
      ((s kind 1).module 29).present = true ∧ ((s kind 1).module 29).score = 1 ∧ ((s kind 2).module 29).score = 2 :=
  fun _ => ⟨fun _ => ⟨kept_like _ duty_kept rfl, duty_apart, rfl, rfl, rfl⟩, rfl, rfl, rfl⟩

/-- Of an ABSENT module: its return poll, and a TERMINAL_WRITE at its second attempt and at its last. -/
theorem test_hyps_ExpiredDeadlineLowersTheScore_absent :
    let s := fun (body : FrameBody) (attempt : Nat) =>
      ({ owing duty with
        modules := duty.modules.set 3 { duty.module 3 with present := false, score := 0 }
        queue := [{ inFlight 3 body with attempt := attempt }] } : State)
    (∀ x ∈ [(FrameBody.poll false true, 0), (.terminalWrite 2 5 owed, 1), (.terminalWrite 2 5 owed, 2)],
      keptCheck (s x.1 x.2) = true ∧ (s x.1 x.2).heldDown = false ∧
        (s x.1 x.2).queue.find? (QueueFrame.inFlightAs 3 0) = some { inFlight 3 x.1 with attempt := x.2 } ∧
        ((s x.1 x.2).module 3).present = false ∧ ((s x.1 x.2).module 3).score = 0) ∧
      ∀ body n, (s body n).Awaits owed :=
  ⟨by decide, fun _ _ => owing_awaits _⟩

theorem test_hyps_PollsAndMergeWindows :
    let gone := { duty with
      modules := duty.modules.set 31 { duty.module 31 with present := false, returnDue := some 1000 } }
    let open_ : QueueFrame := { QueueFrame.fresh 0 (.levels [⟨0, ⟨0, 0⟩, 0, none, .live⟩]) with isOpen := true, mergeAt := 40 }
    let merging := { duty with queue := [open_] }
    let told := { duty with modules := duty.modules.set 31 { duty.module 31 with firstPoll := false, lastTimely := 40 } }
    (told.Kept ∧ (told.module 31).firstPoll = false ∧ (told.module 31).lastTimely = 40) ∧
    (duty.Kept ∧ duty.heldDown = false ∧ duty.inUse 31 = true ∧ (duty.module 31).present = true ∧
      (duty.module 31).firstPoll = true ∧
      (∀ m, duty.params.modules.get m = 31 → isMotion (duty.mover m).state = false) ∧
      ∀ f ∈ duty.queue ++ duty.awaitingRoom, ¬(f.module = 31 ∧ f.isPoll = true)) ∧
    (gone.Kept ∧ gone.inUse 31 = true ∧ (gone.module 31).present = false ∧ (gone.module 31).returnDue = some 1000) ∧
    (moving.Kept ∧ (moving.mover .hatch).poll = .waiting 25 ∧ isMotion (moving.mover .hatch).state = true) ∧
    (merging.Kept ∧ merging.queue.find? (fun f => f.module == 0 && f.isOpen) = some open_) :=
  ⟨⟨kept_of_check _ (by decide), by decide⟩,
    ⟨duty_kept, by decide, by decide, by decide, by decide, fun m => by cases m <;> decide, by decide⟩,
    ⟨kept_of_check _ (by decide), by decide⟩, ⟨kept_of_check _ (by decide), by decide⟩, kept_of_check _ (by decide),
    by decide⟩

/-! ### Hypotheses: the Configuration Store -/

def workshop : State := { duty with cond := { duty.cond with mode := .setup } }

def staged (sec : Section) (recs : List (List Word)) : State := { workshop with staging := some ⟨.one, sec.code, recs⟩ }

/-- A first part, a second part, and the commits of the four sections; a zone record that fails. -/
theorem test_hyps_LoadsAreStagedAndCommitted :
    workshop.Kept ∧ workshop.Takes (order .one 1 2 [0, 0, 0, -1, -1]) ∧
      sectionOf 2 = some .zone ∧ workshop.cond.mode = .setup ∧ (workshop.profile .one).maint = true ∧
      workshop.locked = false ∧ recordsOf .zone [0, 0, -1, -1] = some [[0, 0, -1, -1]] ∧ workshop.staging = none ∧
      (staged .zone [[0, 0, -1, -1]]).Kept ∧ (staged .zone [[0, 0, -1, -1]]).Takes (order .one 1 2 [1, 0, 0, 7, 0]) ∧
      (staged .zone [[0, 0, -1, -1]]).Takes (order .one 1 2 [-1]) ∧
      judgeRecords readZoneRecord 0 [] [[0, 0, -1, -1]] = .passed [⟨false, false, none, none⟩] ∧
      judgeRecords readZoneRecord 0 [] [[2, 0, -1, -1]] = .failed 0 .badOperand none ∧
      judgeRecords (readSceneRecord workshop) 0 [] [[0, 7, 0, 1000, 600]] = .passed [⟨0, 7, ⟨0, 1000, 600⟩⟩] ∧
      judgeRecords readProfileRecord 0 [] [[1, 15, 7], [2, 0, 0], [3, 2, 7]] =
        .passed [(.one, every), (.two, ⟨false, false, false, false, ⟨false, false, false⟩⟩),
          (.three, ⟨false, true, false, false, ⟨true, true, true⟩⟩)] ∧
      Section.profile.largest = 3 ∧ Section.resume.largest = 1 :=
  ⟨kept_of_check _ (by decide), takes_of_check _ _ (by decide), by decide, by decide, by decide, by decide, by decide,
    by decide, kept_of_check _ (by decide), takes_of_check _ _ (by decide), takes_of_check _ _ (by decide), by rfl,
    by rfl, by rfl, by rfl, by decide, by decide⟩

theorem staged_kept (sec : Section) (recs : List (List Word)) : (staged sec recs).Kept := kept_like _ duty_kept rfl

/-- A point section that keeps entry 0, makes entry 1 a dimmer and drops entry 2; a force, a mover and a substitution
section. -/
theorem test_hyps_LoadsAreStagedAndCommitted_sections :
    (∀ sec recs, (staged sec recs).Kept ∧ (staged sec recs).Takes (order .one 1 sec.code [-1])) ∧
      judgeRecords (readPointRecord workshop.substs) 0 [] [[2, 0, 0], [2, 0, 1]] =
        .passed [⟨.dimmed, 0, ⟨0, 0⟩⟩, ⟨.dimmed, 0, ⟨0, 1⟩⟩] ∧
      judgeRecords (readForceRecord workshop) 0 [] [[5, 0, 900]] = .passed [⟨.hatchOpen, 0, 900⟩] ∧
      judgeRecords (readMoverRecord workshop) 0 [] [[28, 30, 31, 400, 1200]] = .passed [⟨⟨28, 30, 31⟩, 400, 1200⟩] ∧
      judgeRecords (readSubstRecord workshop) 0 [] [[0, 96, 0]] = .passed [⟨⟨0, 0⟩, ⟨6, 0⟩, true⟩] :=
  ⟨fun sec recs => ⟨staged_kept sec recs, by cases sec <;> exact takes_of_check _ _ (by rfl)⟩,
    by rfl, by rfl, by rfl, by rfl⟩

/-- A record that fails in each section: the point record whose binding is a spare, a mover record that changes an active
machine's module, and the substitution records of checks 4 to 7 after one that passes. -/
theorem test_hyps_LoadsAreStagedAndCommitted_failures :
    let spared := { staged .point [[2, 0, 0], [2, 0, 96]] with substs := [⟨⟨0, 0⟩, ⟨6, 0⟩, true⟩] }
    let moves := (staged .mover [[28, 30, 31, 400, 1200]]).setMover .hatch movingHatch
    judgeRecords (readPointRecord spared.substs) 0 [] [[2, 0, 0]] = .passed [⟨.dimmed, 0, ⟨0, 0⟩⟩] ∧
    judgeRecords (readPointRecord spared.substs) 0 [] [[2, 0, 0], [2, 0, 96]] =
      .failed 1 .spareInUse (some ⟨.binding, 96⟩) ∧
    (spared.Kept ∧ spared.Takes (order .one 1 1 [-1]) ∧ bindingOf 96 = some ⟨6, 0⟩ ∧
      ∃ e ∈ spared.substs, e.spare = ⟨6, 0⟩) ∧
    judgeRecords (readSceneRecord workshop) 0 [] [[0, 0, 0, 1001, 0]] = .failed 0 .badOperand none ∧
    judgeRecords (readForceRecord workshop) 0 [] [[6, 0, 0]] = .failed 0 .badOperand none ∧
    judgeRecords readProfileRecord 0 [] [[1, 0, 0], [1, 0, 0], [2, 0, 0]] = .failed 1 .badOperand none ∧
    judgeRecords readResumeRecord 0 [] [[2]] = .failed 0 .badOperand none ∧
    (moves.Kept ∧ moves.Takes (order .one 1 6 [-1]) ∧ isActive (moves.mover .hatch).state = true ∧
      (moves.params.modules.get .hatch).val ≠ (28 : Word).toNat) ∧
    judgeRecords (readMoverRecord moves) 0 [] [[28, 30, 31, 400, 1200]] = .failed 0 .busy none ∧
    judgeRecords (readSubstRecord workshop) 0 [] [[0, 96, 0]] = .passed [⟨⟨0, 0⟩, ⟨6, 0⟩, true⟩] ∧
    (∀ x ∈ [([2, 2, 0], Reason.selfSpare), ([0, 12, 0], .alreadyMapped), ([2, 96, 1], .spareTaken), ([2, 1, 0], .spareInUse)],
      (staged .substitution [[0, 96, 0], x.1]).Kept) :=
  ⟨by rfl, by rfl,
    ⟨kept_of_check _ (by decide), takes_of_check _ _ (by decide), by decide⟩, by rfl, by rfl, by rfl, by rfl,
    ⟨kept_of_check _ (by decide), takes_of_check _ _ (by decide), by decide⟩, by rfl, by rfl,
    fun _ _ => staged_kept _ _⟩

/-- A point load that changes entry 0, with an unsent and a sent item of it in the queue. -/
theorem test_hyps_LoadsAreStagedAndCommitted_freeze :
    let item : Item := ⟨0, ⟨0, 0⟩, 5, none, .live⟩
    let s := { staged .point [[2, 0, 7]] with
      queue := [inFlight 0 (.levels [{ item with level := some 250 }]), QueueFrame.fresh 0 (.levels [item])] }
    ∃ e x, (s.Kept ∧ s.Takes (order .one 1 1 [-1])) ∧
      judgeRecords (readPointRecord s.substs) 0 [] [[2, 0, 7]] = .passed [x] ∧ s.points[0]? = some e ∧
      ¬(e.kind = x.kind ∧ e.zone = x.zone ∧ e.binding = x.binding) :=
  ⟨_, _, meets _ _ (by decide), rfl, rfl, by decide⟩

/-- What refuses a load: section 9, no word, a word past the records, words after the commit's index; ANCHORED; no MAINT;
the lock; another's copy; a section too large; a part without its copy, out of its place, or past the section; a commit
without its copy, of another section's, or short of its exact count. -/
theorem test_hyps_LoadsAreStagedAndCommitted_refusals :
    let poor := { workshop with profiles := ⟨{ every with maint := false }, every, every⟩ }
    let closed := { workshop with locked := true }
    let copy := staged .profile [[1, 15, 7]]
    let resume := staged .resume [[1]]
    (∀ o ∈ [order .one 1 9 [0], order .one 1 0 [0], order .one 1 2 [], order .one 1 2 [0, 0], order .one 1 8 [-1, 1],
        order .one 1 8 [0, 1, 1], order .one 1 8 [1, 1], order .one 1 8 [-1]], workshop.Kept ∧ workshop.Takes o) ∧
    workshop.staging = none ∧ Section.resume.largest < 2 ∧
    ((duty.Kept ∧ duty.Takes (order .one 1 8 [0, 1])) ∧ duty.cond.mode ≠ .setup) ∧
    ((poor.Kept ∧ poor.Takes (order .one 1 8 [0, 1])) ∧ (poor.profile .one).maint = false) ∧
    ((closed.Kept ∧ closed.Takes (order .one 1 8 [0, 1])) ∧ closed.locked = true) ∧
    (∀ o ∈ [order .two 1 5 [1, 2, 0, 0], order .one 1 5 [2, 2, 0, 0], order .one 1 5 [-1], order .one 1 2 [-1]],
      copy.Kept ∧ copy.Takes o) ∧ Section.profile.isExact = true ∧ Section.profile.largest = 3 ∧
    (resume.Kept ∧ resume.Takes (order .one 1 8 [1, 1])) :=
  ⟨meet _ _ (by decide), by decide, by decide, ⟨meets _ _ (by decide), by decide⟩, ⟨meets _ _ (by decide), by decide⟩,
    ⟨meets _ _ (by decide), by decide⟩, meet _ _ (by decide), by decide, by decide, meets _ _ (by decide)⟩

theorem test_hyps_LockClosesTheStore :
    let closed := { workshop with locked := true }
    (duty.Kept ∧ duty.Takes (order .one 1 0 [])) ∧
    (closed.Kept ∧ closed.Takes (order .one 1 8 [0, 1]) ∧ sectionOf 8 = some .resume ∧
      recordsOf .resume [1] = some [[1]] ∧ closed.cond.mode = .setup ∧ closed.locked = true) :=
  ⟨test_hyps_taken_orders 0 [], kept_of_check _ (by decide), takes_of_check _ _ (by decide), by decide⟩

/-! ### Hypotheses: attach, detach and the supplies -/

theorem test_hyps_AttachAndDetach :
    (State.reset.Kept ∧ State.reset.heldDown = false ∧ (State.reset.station .one).attached = false) ∧
    (moving.heldDown = false ∧ (moving.station .one).attached = true ∧ (moving.claim .hatch).holder = .station .one ∧
      isMotion (moving.mover .hatch).state = true ∧ isActive (moving.mover .windlass).state = false ∧
      (moving.claim .windlass).holder = .station .one) :=
  ⟨⟨kept_of_check _ (by decide), by decide, by decide⟩, by decide⟩

/-- An attach that finds a restart fault of its own, and one of another's, with the notice that is due. -/
theorem test_hyps_AttachAndDetach_notices :
    let s := { duty with
      stations := { duty.stations with one := { duty.stations.one with attached := false } }
      keep := { duty.keep with notices := ⟨true, false, true⟩ }
      restartFaults := ⟨some ⟨.stall, 5, true, .station .two⟩, some ⟨.linkLost, 400, false, .station .one⟩, none⟩ }
    s.Kept ∧ s.heldDown = false ∧ (s.station .one).attached = false ∧ s.keep.notices.get .one = true :=
  ⟨kept_of_check _ (by decide), by decide⟩

/-- A detach with a declaration, a fence, a held order and a window mark, and a staging copy of the station's. -/
theorem test_hyps_AttachAndDetach_orders :
    let s := { releasing with
      nextSerial := 6
      declaration := some ⟨50, some ⟨.one, 3, 5⟩, 31⟩
      staging := some ⟨.one, 2, []⟩
      fences := [⟨⟨.one, 3, 5⟩, [], 0⟩]
      queue := [{ inFlight 0 (.levels [⟨0, ⟨0, 0⟩, 5, some 300, .live⟩]) with marks := [5] }] }
    s.Kept ∧ s.heldDown = false ∧ (s.station .one).attached = true ∧ s.HeldLaw ∧
      (∀ c ∈ controlsOf .windlass, s.control c ≠ .passed) ∧ (∃ y ∈ s.fences, y.order.station = .one) ∧
      ∀ y ∈ s.fences, ∀ z ∈ s.fences, z.order.serial = y.order.serial → z.order.station = .one :=
  ⟨kept_of_check _ (by decide), by decide, by decide, by unfold State.HeldLaw; decide, by decide⟩

/-- A detach with the hatch in each active state, and at rest with a waiter; under a claim that is RELEASING. -/
theorem test_hyps_AttachAndDetach_movers :
    let s := fun (r : MoverRecord) (e : Ending) =>
      ({ waiting with movers := ⟨r, restingMover, restingMover⟩ } : State).setClaim .hatch
        { waiting.claim .hatch with ending := e }
    (∀ r e, (s r e).Kept ∧ (s r e).heldDown = false ∧ (s r e).mover .hatch = r ∧
      ((s r e).station .one).attached = true ∧ ((s r e).claim .hatch).holder = .station .one ∧
      ((s r e).claim .hatch).ending = e ∧ ((s r e).claim .hatch).waiters = [⟨.three, 5, 0⟩]) ∧
    (∀ x ∈ controlsOf .hatch, waiting.control x ≠ .passed) ∧
    isMotion movingHatch.state = true ∧ (recovering false false).stopConfirmed = false ∧
    (recovering true false).stopConfirmed = true ∧ (movingHatch.halting .halted).state = .halting ∧
    isActive restingMover.state = false :=
  ⟨fun _ _ => ⟨kept_like _ (kept_of_check waiting (by decide)) rfl, rfl, rfl, rfl, rfl, rfl, rfl⟩, by decide⟩

theorem test_hyps_SupplyEventsHoldThePartDown : moving.Kept ∧ down.Kept :=
  ⟨kept_of_check _ (by decide), kept_of_check _ (by decide)⟩

/-- Cold and warm, by either command. -/
theorem test_hyps_RestartSetsEveryBlock :
    let warm := { down with keep := { down.keep with valid := true } }
    let reset := { down with mainLost := false, resetAsserted := true }
    (down.Kept ∧ down.heldDown = true ∧ down.resetAsserted = false) ∧
    (warm.Kept ∧ warm.heldDown = true ∧ warm.keep.valid = true) ∧
    (reset.Kept ∧ reset.heldDown = true ∧ reset.mainLost = false) :=
  ⟨⟨kept_of_check _ (by decide), by decide⟩, ⟨kept_of_check _ (by decide), by decide⟩, kept_of_check _ (by decide),
    by decide⟩

/-- A warm restart with a mover that was ACTIVE and one that was FAULTED, and points that the policy lights. -/
theorem test_hyps_RestartSetsEveryBlock_points :
    let kept : PerMover KeepMover := ⟨⟨true, 340, true, none, .station .one⟩, ⟨false, 5, true, some .stall, .nobody⟩,
      down.keep.movers.windlass⟩
    let lit := { duty with
      heldDown := true, mainLost := true, resume := .restore, zones := [⟨false, false, none, some 2⟩]
      keep := { down.keep with valid := true, movers := kept }
      stations := down.stations }
    lit.Kept ∧ lit.heldDown = true ∧ lit.resetAsserted = false ∧ lit.keep.valid = true ∧
      (lit.keep.movers.get .hatch).active = true ∧ (lit.keep.movers.get .platform).faulted = some .stall ∧
      (lit.point? 0).isSome = true ∧ (lit.point? 2).map (fun e => e.kind) = some .sense ∧ lit.resume = .restore ∧
      (lit.zone 0).powerUp = some 2 ∧ (lit.scene? 0 2).isSome = true :=
  ⟨kept_of_check _ (by decide), by decide⟩

/-! ### Hypotheses: the laws -/

def hasNext (s : State) : Bool :=
  match step s with
  | .next _ => true
  | .fault _ | .refused _ => false

/-- With a frame sent out of a full queue, and frames held for want of admission. -/
theorem test_hyps_StepKeepsItsEnd :
    moving.Kept ∧ hasNext { moving with pending := [.loopOpen .bow] } = true ∧ crowdedBus.Kept ∧
      hasNext { crowdedBus with pending := [.frameSend] } = true :=
  ⟨kept_of_check _ (by decide), by decide, kept_of_check _ (by decide), by decide⟩

theorem test_hyps_StepKeepsTheLawOfTheIntake : crowded.IntakeLaw ∧ hasNext crowded = true :=
  ⟨fun n => by cases n <;> decide, by decide⟩

theorem test_hyps_StepKeepsTheLawOfForcedLevels : forced.ForceLaw ∧ hasNext forced = true :=
  ⟨⟨fun p e h => by
      rcases p with _ | p
      · cases h; decide
      · simp [State.writable?, State.point?, forced] at h, fun _ => by decide⟩, by decide⟩

theorem test_hyps_StepKeepsTheLawOfClaims : moving.ClaimLaw ∧ hasNext moving = true :=
  ⟨fun m => by cases m <;> exact ⟨by decide, fun n => by cases n <;> decide, by decide, by decide⟩, by decide⟩

theorem test_hyps_StepKeepsTheLawOfTheWaitLists : waiting.WaitLaw ∧ hasNext waiting = true :=
  ⟨fun m => by cases m <;> decide, by decide⟩

theorem test_hyps_StepKeepsTheLawOfTheEmergencyStop :
    { duty with cond := { duty.cond with latch := true } }.StopLaw ∧ hasNext duty = true :=
  ⟨fun _ m => by cases m <;> decide, by decide⟩

theorem test_hyps_StepKeepsTheLawOfTheHatchAndPlatform : moving.PartnerLaw ∧ hasNext moving = true :=
  ⟨by unfold State.PartnerLaw; decide, by decide⟩

theorem test_hyps_StepKeepsTheLawOfHeldOrders : holding.HeldLaw ∧ hasNext holding = true := ⟨holding_held, by decide⟩

/-- Twelve frames in flight and two held for want of admission; an open frame. -/
theorem test_hyps_StepKeepsTheLawOfTheUnconfirmedCount :
    let s := { crowdedBus with
      queue := List.replicate 12 (inFlight 0 (.poll false false)) ++ crowdedBus.queue.drop 12 }
    s.UnconfirmedLaw ∧ s.unconfirmed = 12 ∧ s.RoomLaw ∧ s.OpenLaw ∧ hasNext s = true ∧
      (after (.setPoint (order .two 1 0 [600, 10])) duty).OpenLaw :=
  ⟨by unfold State.UnconfirmedLaw; decide, by decide, crowdedBus_room, by unfold State.OpenLaw; decide, by decide,
    by unfold State.OpenLaw; decide⟩

theorem test_hyps_StepKeepsTheLawOfSpares : voided.SpareLaw ∧ hasNext voided = true := ⟨voided_spares, by decide⟩

end Sys2Proof.Tests
end

/-! READ_POINT (R12): what its judgement answers in each case, and the command's effect. -/

namespace Sys2Proof.Machine

theorem noWords_iff (o : OrderFrame) : noWords o = true ↔ o.words = [] := List.isEmpty_iff

theorem exec_readPoint (o : OrderFrame) (s : State) :
    exec (.readPoint o) s = run (arrive codeReadPoint o (judgeReadPoint o)) s := rfl

/-- Which points are configured does not hang on the intakes. -/
theorem State.entered_point? (s : State) (code : Byte) (o : OrderFrame) (p : Nat) :
    (s.entered code o).point? p = s.point? p := rfl

/-- The words read of an entry do not hang on the intakes: the channel map alone is consulted. -/
theorem pointWords_entered (s : State) (code : Byte) (o : OrderFrame) (e : PointEntry) :
    pointWords (s.entered code o) e = pointWords s e := rfl

theorem judgeReadPoint_of_no_point (o : OrderFrame) (r : OrderRef) (s : State) (h : s.point? o.target.toNat = none) :
    judgeReadPoint o r s = answer r .refused .badTarget [] s := by
  simp only [judgeReadPoint, h, refuse]

theorem judgeReadPoint_of_words (o : OrderFrame) (r : OrderRef) (s : State) (e : PointEntry)
    (h : s.point? o.target.toNat = some e) (words : o.words ≠ []) :
    judgeReadPoint o r s = answer r .refused .badOperand [] s := by
  have : noWords o = false := Bool.eq_false_iff.2 (mt (noWords_iff o).1 words)
  simp only [judgeReadPoint, h, this, Bool.not_false, deny, judged, firstDenial, refuse, if_true]

theorem judgeReadPoint_of_bare (o : OrderFrame) (r : OrderRef) (s : State) (e : PointEntry)
    (h : s.point? o.target.toNat = some e) (bare : o.words = []) :
    judgeReadPoint o r s = answer r .done .noReason (pointWords s e) s := by
  have : noWords o = true := (noWords_iff o).2 bare
  simp only [judgeReadPoint, h, this, Bool.not_true, deny, judged, firstDenial, done, Bool.false_eq_true, if_false]

/-- Settles O3: each of the three cases of the judgement is an order answered at once that changes nothing else. -/
theorem readPointAnswersTheEntry : Obligations.ReadPointAnswersTheEntry := by
  intro s o kept takes
  rw [exec_readPoint]
  have seen := s.entered_point? codeReadPoint o o.target.toNat
  cases hp : s.point? o.target.toNat with
  | none => exact run_read _ _ _ _ _ _ _ kept takes (judgeReadPoint_of_no_point _ _ _ (seen.trans hp))
  | some e =>
    by_cases hw : o.words = []
    · rw [run_read _ _ _ _ _ _ _ kept takes (judgeReadPoint_of_bare _ _ _ e (seen.trans hp) hw), pointWords_entered]
      simp only [hw, ne_eq, not_true, if_false]
      rfl
    · rw [run_read _ _ _ _ _ _ _ kept takes (judgeReadPoint_of_words _ _ _ e (seen.trans hp) hw)]
      simp only [hw, ne_eq, not_false_iff, if_true]

end Sys2Proof.Machine

/-! The parts that the judgements of the orders that name a mover share: checks that pass and checks that deny, and the
holder's order that renews an ATTENDED lease (R67). -/

namespace Sys2Proof.Machine

/-! ### Checks -/

@[simp] theorem deny_true (why : Reason) (data : List Word) : deny true why data = some (why, data) := rfl

@[simp] theorem deny_false (why : Reason) (data : List Word) : deny false why data = none := rfl

theorem judged_of_denied {checks : List (Option Denial)} {d : Denial} (h : firstDenial checks = some d)
    (r : OrderRef) (go : State → State) (s : State) : judged r checks go s = refuse r d s := by
  simp only [judged, h]

theorem judged_of_passed {checks : List (Option Denial)} (h : firstDenial checks = none)
    (r : OrderRef) (go : State → State) (s : State) : judged r checks go s = go s := by
  simp only [judged, h]

/-- The check that an order carries no operand words. -/
theorem firstDenial_noWords (o : OrderFrame) (why : Reason) (l : List (Option Denial)) :
    firstDenial (deny (!noWords o) why :: l) = if o.words = [] then firstDenial l else some (why, []) := by
  by_cases h : o.words = []
  · rw [if_pos h, (noWords_iff o).2 h]; rfl
  · rw [if_neg h, Bool.eq_false_iff.2 (mt (noWords_iff o).1 h)]; rfl

theorem State.holds_iff (s : State) (n : Station) (m : Mover) :
    s.holds n m = true ↔ (s.claim m).holder = .station n ∧ (s.claim m).ending = .notEnding := by
  simp only [State.holds, Bool.and_eq_true, beq_iff_eq]

/-! ### An order in the intake -/

@[simp] theorem State.entered_mover (s : State) (code : Byte) (o : OrderFrame) (m : Mover) :
    (s.entered code o).mover m = s.mover m := rfl

@[simp] theorem State.entered_holds (s : State) (code : Byte) (o : OrderFrame) (n : Station) (m : Mover) :
    (s.entered code o).holds n m = s.holds n m := rfl

@[simp] theorem denyPermit_entered (s : State) (code : Byte) (o : OrderFrame) (m : Mover) (attended : Bool) (d : Driven) :
    denyPermit (s.entered code o) m attended d = denyPermit s m attended d := rfl

/-! ### The renewal of an ATTENDED lease -/

/-- The renewal changes the Claim Records alone. -/
theorem State.attendedBy_touches (s : State) (n : Station) (m : Mover) :
    s.attendedBy n m = { s with claims := (s.attendedBy n m).claims } := by
  unfold State.attendedBy
  split <;> rfl

/-- An order of a station that does not hold the mover renews nothing. -/
theorem State.attendedBy_of_not_holds {s : State} {n : Station} {m : Mover} (h : s.holds n m = false) :
    s.attendedBy n m = s := by
  have lacks : ¬((s.claim m).holder = .station n ∧ (s.claim m).ending = .notEnding) :=
    fun c => absurd ((s.holds_iff n m).2 c) (by simp [h])
  exact if_neg fun ⟨holder, ending, _⟩ => lacks ⟨holder, ending⟩

@[simp] theorem State.attendedBy_mover (s : State) (n : Station) (m k : Mover) :
    (s.attendedBy n m).mover k = s.mover k := by rw [State.attendedBy_touches]; rfl

@[simp] theorem denyPermit_attendedBy (s : State) (n : Station) (m k : Mover) (attended : Bool) (d : Driven) :
    denyPermit (s.attendedBy n m) k attended d = denyPermit s k attended d := by rw [State.attendedBy_touches]; rfl

/-- The renewal moves the deadline: who holds the mover, and whether the claim is ending, stay. -/
@[simp] theorem State.attendedBy_holds (s : State) (n k : Station) (m : Mover) :
    (s.attendedBy n m).holds k m = s.holds k m := by
  unfold State.attendedBy
  split
  · simp only [State.holds, State.claim_setClaim_self]
  · rfl

/-- What the model does for an order of the holder is the renewal the statements name. -/
theorem renewAttended_eq (s : State) (n : Station) (m : Mover) : renewAttended n m s = s.attendedBy n m := by
  unfold renewAttended State.attendedBy
  by_cases h : (s.claim m).holder = .station n ∧ (s.claim m).ending = .notEnding ∧ (s.claim m).lease = some .attended
  · obtain ⟨holder, ending, lease⟩ := h
    rw [if_pos ⟨(s.holds_iff n m).2 ⟨holder, ending⟩, lease⟩, if_pos ⟨holder, ending, lease⟩]
    simp only [renewLease, lease, setLease, State.modClaim_eq, leaseLength]
  · rw [if_neg h, if_neg]
    rintro ⟨holds, lease⟩
    obtain ⟨holder, ending⟩ := (s.holds_iff n m).1 holds
    exact h ⟨holder, ending, lease⟩

theorem State.attendedBy_entered (s : State) (code : Byte) (o : OrderFrame) (n : Station) (m : Mover) :
    (s.entered code o).attendedBy n m = (s.attendedBy n m).entered code o := by
  unfold State.attendedBy
  rw [apply_ite (fun t : State => t.entered code o)]
  rfl

theorem renewAttended_entered (s : State) (code : Byte) (o : OrderFrame) (n : Station) (m : Mover) :
    renewAttended n m (s.entered code o) = (s.attendedBy n m).entered code o := by
  rw [renewAttended_eq, State.attendedBy_entered]

/-- An order answered at once that renews an ATTENDED lease and sets the record of the mover it names. -/
theorem run_attended_setMover (code : Byte) (o : OrderFrame) (judge : OrderRef → State → State) (s : State) (m : Mover)
    (rec : MoverRecord) (res : Result) (why : Reason) (data : List Word) (kept : s.Kept) (takes : s.Takes o)
    (judgement : judge (s.nextRef o) (s.entered code o) =
      answer (s.nextRef o) res why data (((s.attendedBy o.station m).setMover m rec).entered code o)) :
    run (arrive code o judge) s = .next (((s.attendedBy o.station m).setMover m rec).answered code o res why data) := by
  rw [State.attendedBy_touches] at judgement ⊢
  exact run_done code o judge s _ res why data kept takes judgement rfl rfl rfl rfl rfl rfl rfl

/-- An order answered at once that renews an ATTENDED lease and changes nothing else. -/
theorem run_attended (code : Byte) (o : OrderFrame) (judge : OrderRef → State → State) (s : State) (m : Mover)
    (res : Result) (why : Reason) (data : List Word) (kept : s.Kept) (takes : s.Takes o)
    (judgement : judge (s.nextRef o) (s.entered code o) =
      answer (s.nextRef o) res why data ((s.attendedBy o.station m).entered code o)) :
    run (arrive code o judge) s = .next ((s.attendedBy o.station m).answered code o res why data) := by
  rw [State.attendedBy_touches] at judgement ⊢
  exact run_done code o judge s _ res why data kept takes judgement rfl rfl rfl rfl rfl rfl rfl

end Sys2Proof.Machine

/-! READY (R43) and RESET_MOVER (R44). -/

namespace Sys2Proof.Machine

/-! ### READY -/

theorem exec_ready (o : OrderFrame) (s : State) :
    exec (.ready o) s = run (arrive codeReady o (judgeReady o)) s := rfl

theorem judgeReady_of_no_mover {o : OrderFrame} (h : moverOf o.target = none) (r : OrderRef) (s : State) :
    judgeReady o r s = answer r .refused .badTarget [] s := by
  simp only [judgeReady, h, refuse]

/-- READY of a mover: words are refused; a bare one is DONE with the words of the mover, the holder's lease renewed. -/
theorem judgeReady_of_mover {o : OrderFrame} {m : Mover} (h : moverOf o.target = some m) (r : OrderRef) (s : State) :
    judgeReady o r s =
      if o.words = [] then answer r .done .noReason (readyWords s m) (renewAttended o.station m s)
      else answer r .refused .badOperand [] s := by
  simp only [judgeReady, h, judged, firstDenial_noWords]
  by_cases bare : o.words = [] <;> simp only [bare, if_true, if_false] <;> rfl

/-! ### RESET_MOVER -/

theorem exec_resetMover (o : OrderFrame) (s : State) :
    exec (.resetMover o) s = run (arrive codeResetMover o (judgeResetMover o)) s := rfl

/-- The record RESET_MOVER leaves of a resting mover (R44). -/
def MoverRecord.afterReset (r : MoverRecord) : MoverRecord :=
  if r.state = .faulted then { r with state := if r.valid then .halted else .unhomed, attempts := 0, poll := .idle }
  else r

theorem resetFaulted_eq (m : Mover) (s : State) : resetFaulted m s = s.setMover m (s.mover m).afterReset := by
  unfold resetFaulted MoverRecord.afterReset
  by_cases faulted : (s.mover m).state = .faulted
  · rw [if_pos faulted, if_pos faulted, State.modMover_eq]
    -- Neither rest state is a motion state, so no motion poll is due.
    cases hv : (s.mover m).valid <;> simp [MoverRecord.enter, isMotion, hv]
  · rw [if_neg faulted, if_neg faulted]
    simp only [State.setMover, State.mover, PerMover.set_get]

theorem judgeResetMover_of_no_mover {o : OrderFrame} (h : moverOf o.target = none) (r : OrderRef) (s : State) :
    judgeResetMover o r s = answer r .refused .badTarget [] s := by
  simp only [judgeResetMover, h, refuse]

theorem judgeResetMover_of_words {o : OrderFrame} {m : Mover} (h : moverOf o.target = some m) (words : o.words ≠ [])
    (r : OrderRef) (s : State) : judgeResetMover o r s = answer r .refused .badOperand [] s := by
  simp only [judgeResetMover, h]
  rw [judged_of_denied (by rw [firstDenial_noWords, if_neg words])]
  rfl

/-- A bare RESET_MOVER, judged after the holder's lease is renewed. -/
theorem judgeResetMover_of_bare {o : OrderFrame} {m : Mover} (h : moverOf o.target = some m) (bare : o.words = [])
    (r : OrderRef) (code : Byte) (s : State) :
    judgeResetMover o r (s.entered code o) =
      judged r [deny (!s.holds o.station m) .notHolder, deny (isActive (s.mover m).state) .busy]
        (fun u => done r [wordOfNat ((resetFaulted m u).mover m).state.code] (resetFaulted m u))
        ((s.attendedBy o.station m).entered code o) := by
  simp only [judgeResetMover, h]
  rw [judged_of_passed (by rw [firstDenial_noWords, if_pos bare]; rfl), renewAttended_entered]
  simp only [State.entered_holds, State.attendedBy_holds, State.entered_mover, State.attendedBy_mover]

theorem exec_resetMover_of_not_holder {s : State} {o : OrderFrame} {m : Mover} (kept : s.Kept) (takes : s.Takes o)
    (h : moverOf o.target = some m) (bare : o.words = []) (holds : s.holds o.station m = false) :
    exec (.resetMover o) s = .next (s.answered codeResetMover o .refused .notHolder []) := by
  refine run_read _ _ _ _ _ _ _ kept takes ?_
  rw [judgeResetMover_of_bare h bare, State.attendedBy_of_not_holds holds, holds]
  rfl

theorem exec_resetMover_of_active {s : State} {o : OrderFrame} {m : Mover} (kept : s.Kept) (takes : s.Takes o)
    (h : moverOf o.target = some m) (bare : o.words = []) (holds : s.holds o.station m = true)
    (active : isActive (s.mover m).state = true) :
    exec (.resetMover o) s = .next ((s.attendedBy o.station m).answered codeResetMover o .refused .busy []) := by
  refine run_attended _ _ _ _ _ _ _ _ kept takes ?_
  rw [judgeResetMover_of_bare h bare, holds, active]
  rfl

theorem exec_resetMover_of_rest {s : State} {o : OrderFrame} {m : Mover} (kept : s.Kept) (takes : s.Takes o)
    (h : moverOf o.target = some m) (bare : o.words = []) (holds : s.holds o.station m = true)
    (rests : isActive (s.mover m).state = false) :
    exec (.resetMover o) s = .next (((s.attendedBy o.station m).setMover m (s.mover m).afterReset).answered
      codeResetMover o .done .noReason [wordOfNat (s.mover m).afterReset.state.code]) := by
  refine run_attended_setMover _ _ _ _ _ _ _ _ _ kept takes ?_
  rw [judgeResetMover_of_bare h bare, holds, rests, judged_of_passed rfl, resetFaulted_eq]
  simp only [State.entered_mover, State.attendedBy_mover, State.mover_setMover_self]
  rfl

/-- Settles O11: READY by its three cases; RESET_MOVER by its checks in their order, and then the rest it comes to. -/
theorem readyAndResetMover : Obligations.ReadyAndResetMover := by
  constructor
  · intro s o kept takes
    rw [exec_ready]
    cases hm : moverOf o.target with
    | none => exact run_read _ _ _ _ _ _ _ kept takes (judgeReady_of_no_mover hm ..)
    | some m =>
      by_cases bare : o.words = []
      · have words : readyWords (s.entered codeReady o) m = readyWords s m := rfl
        simp only [bare, ne_eq, not_true, if_false]
        rw [run_attended _ _ _ _ m _ _ _ kept takes
          (by rw [judgeReady_of_mover hm, if_pos bare, words, renewAttended_entered])]
        simp only [readyWords]
        cases (s.mover m).target <;> rfl
      · simp only [bare, ne_eq, not_false_iff, if_true]
        exact run_read _ _ _ _ _ _ _ kept takes (by rw [judgeReady_of_mover hm, if_neg bare])
  · intro s o kept takes
    cases hm : moverOf o.target with
    | none => exact run_read _ _ _ _ _ _ _ kept takes (judgeResetMover_of_no_mover hm ..)
    | some m =>
      by_cases bare : o.words = []
      · simp only [bare, ne_eq, not_true, if_false, ← State.holds_iff]
        cases holds : s.holds o.station m with
        | false =>
          simp only [Bool.false_eq_true, not_false_iff, if_true]
          exact exec_resetMover_of_not_holder kept takes hm bare holds
        | true =>
          cases active : isActive (s.mover m).state with
          | true => exact exec_resetMover_of_active kept takes hm bare holds active
          | false => exact exec_resetMover_of_rest kept takes hm bare holds active
      · simp only [bare, ne_eq, not_false_iff, if_true]
        exact run_read _ _ _ _ _ _ _ kept takes (judgeResetMover_of_words hm bare ..)

end Sys2Proof.Machine

/-! The refusals of MOVE (R26, R28) and HOME (R29). -/

namespace Sys2Proof.Machine

/-! ### The Order Screen of a motion (R88, R89) -/

/-- Table 5-4 for a MOVE or a HOME. -/
theorem State.motionModeValid_iff (s : State) (n : Station) (m : Mover) (target : Option Int) :
    s.motionModeValid n m target = true ↔
      (s.cond.mode = .setup → (s.profile n).maint = true) ∧
      (s.cond.mode = .underway → m = .windlass ∧ ∀ t ∈ target, t = 0 ∨ t < s.movers.windlass.position) := by
  unfold State.motionModeValid
  cases s.cond.mode with
  | berthed => simp
  | anchored => simp
  | setup => simp
  | underway => cases m <;> cases target <;> simp [State.heaveTarget]

@[simp] theorem screenMotion_entered (s : State) (code : Byte) (o : OrderFrame) (n : Station) (m : Mover)
    (target : Option Int) (attended : Bool) :
    screenMotion (s.entered code o) n m target attended = screenMotion s n m target attended := rfl

theorem screenMotion_of_invalid {s : State} {n : Station} {m : Mover} {target : Option Int}
    (mode : s.motionModeValid n m target = false) (attended : Bool) :
    screenMotion s n m target attended = some (.modeInvalid, []) := by
  rw [screenMotion, mode]; rfl

theorem screenMotion_of_unattended {s : State} {n : Station} {m : Mover} {target : Option Int} {attended : Bool}
    (mode : s.motionModeValid n m target = true) (lacks : ¬(attended = true → (s.profile n).attend = true)) :
    screenMotion s n m target attended = some (.noAuthority, []) := by
  obtain ⟨rfl, attend⟩ := Classical.not_imp.1 lacks
  rw [screenMotion, mode, Bool.eq_false_iff.2 attend]; rfl

theorem screenMotion_of_passed {s : State} {n : Station} {m : Mover} {target : Option Int} {attended : Bool}
    (mode : s.motionModeValid n m target = true) (allowed : attended = true → (s.profile n).attend = true) :
    screenMotion s n m target attended = none := by
  have attend : (attended && !(s.profile n).attend) = false := by
    cases attended with
    | false => rfl
    | true => simp only [allowed rfl, Bool.not_true, Bool.and_false]
  rw [screenMotion, mode, attend]; rfl

/-! ### The checks past the screen -/

theorem denyPermit_of_denied {s : State} {m : Mover} {attended : Bool} {d : Driven} {why : Reason}
    (h : permitCheck s m attended d = some why) : denyPermit s m attended d = some (why, []) := by
  rw [denyPermit, h]; rfl

theorem retargets_iff (m : Mover) (rec : MoverRecord) (target : Int) :
    retargets m rec target = true ↔
      rec.attempts = 0 ∧
      ((rec.position < rec.target.getD rec.position ∧ rec.position < target) ∨
        (rec.target.getD rec.position < rec.position ∧ target < rec.position)) ∧
      withinTolerance m target rec.position = false := by
  simp only [retargets, Bool.and_eq_true, beq_iff_eq, decide_eq_true_eq, Bool.not_eq_true', and_assoc]

/-- The state check of a MOVE (R26), with the conditions of a retarget in MOVING (R28). -/
def moveDenial (m : Mover) (rec : MoverRecord) (target : Int) : Option Denial :=
  match rec.state with
  | .unhomed => some (.notHomed, [])
  | .faulted => some (.moverFaulted, [])
  | .homing | .settling | .recovering | .halting => some (.busy, [])
  | .moving => deny (!retargets m rec target) .busy
  | .halted => deny (!rec.valid) .notHomed
  | .idle => none

/-- The checks of a MOVE past the screen, in their order: the claim, the state, the permit (R26). -/
def State.moveDenials (s : State) (o : OrderFrame) (m : Mover) (target : Int) : List (Option Denial) :=
  [deny (!s.holds o.station m) .notHolder, moveDenial m (s.mover m) target,
   denyPermit s m (attendedBit o) (.toward target)]

/-- The checks of a HOME past the screen, in their order: the claim, the state, the permit (R29). -/
def State.homeDenials (s : State) (o : OrderFrame) (m : Mover) : List (Option Denial) :=
  [deny (!s.holds o.station m) .notHolder, deny (isActive (s.mover m).state) .busy,
   denyPermit s m (attendedBit o) .homing]

/-- A MOVE past the screen is judged by these checks; it retargets a mover in MOVING and starts a resting one. -/
theorem moveScreened_eq (o : OrderFrame) (m : Mover) (target : Int) (r : OrderRef) (s : State) :
    moveScreened o m target r s =
      judged r (s.moveDenials o m target)
        (if (s.mover m).state = .moving then retarget o m target r else startMove o m target r) s := by
  simp only [moveScreened, State.moveDenials, moveDenial]
  cases s.holds o.station m with
  | false => rfl
  | true => cases (s.mover m).state <;> rfl

theorem homeScreened_eq (o : OrderFrame) (m : Mover) (r : OrderRef) (s : State) :
    homeScreened o m r s =
      judged r (s.homeDenials o m)
        (fun s => takeDeferral o m r (startHoming m (attendedBit o) (noRetryBit o) s)) s := rfl

/-- The checks do not hang on the intakes or on the renewed lease. -/
theorem State.moveDenials_attendedBy_entered (s : State) (code : Byte) (o : OrderFrame) (m : Mover) (target : Int) :
    ((s.attendedBy o.station m).entered code o).moveDenials o m target = s.moveDenials o m target := by
  simp [State.moveDenials]

theorem State.homeDenials_attendedBy_entered (s : State) (code : Byte) (o : OrderFrame) (m : Mover) :
    ((s.attendedBy o.station m).entered code o).homeDenials o m = s.homeDenials o m := by
  simp [State.homeDenials]

/-! ### MOVE -/

theorem exec_move (o : OrderFrame) (s : State) : exec (.move o) s = run (arrive codeMove o (judgeMove o)) s := rfl

theorem judgeMove_of_no_mover {o : OrderFrame} (h : moverOf o.target = none) (r : OrderRef) (s : State) :
    judgeMove o r s = answer r .refused .badTarget [] s := by
  simp only [judgeMove, h, refuse]

theorem judgeMove_of_no_position {o : OrderFrame} {m : Mover} {s : State} (h : moverOf o.target = some m)
    (position : positionOperand o s m = none) (r : OrderRef) :
    judgeMove o r s = answer r .refused .badOperand [] s := by
  simp only [judgeMove, h, position, refuse]

theorem judgeMove_of_position {o : OrderFrame} {m : Mover} {s : State} {target : Int} (h : moverOf o.target = some m)
    (position : positionOperand o s m = some target) (r : OrderRef) :
    judgeMove o r s =
      judged r [screenMotion s o.station m (some target) (attendedBit o)]
        (fun s => moveScreened o m target r (renewAttended o.station m s)) s := by
  simp only [judgeMove, h, position]

theorem positionOperand_of_word {o : OrderFrame} {s : State} {m : Mover} {w : Word} (word : o.words = [w])
    (low : 0 ≤ w.toInt) (high : w.toInt ≤ scaleTop s.params.chainLength m) :
    positionOperand o s m = some w.toInt := by
  simp only [positionOperand, oneWord, word]
  exact if_pos ⟨low, high⟩

theorem positionOperand_eq_none {o : OrderFrame} {s : State} {m : Mover}
    (h : ¬∃ w ∈ o.words, o.words = [w] ∧ 0 ≤ w.toInt ∧ w.toInt ≤ scaleTop s.params.chainLength m) :
    positionOperand o s m = none := by
  rw [positionOperand, oneWord]
  match hw : o.words with
  | [] => rfl
  | [w] => exact if_neg fun range => h ⟨w, by rw [hw]; exact List.mem_singleton_self w, hw, range⟩
  | _ :: _ :: _ => rfl

theorem exec_move_of_screen_denied {s : State} {o : OrderFrame} {m : Mover} {target : Int} {why : Reason}
    (kept : s.Kept) (takes : s.Takes o) (h : moverOf o.target = some m)
    (position : positionOperand o s m = some target)
    (screen : screenMotion s o.station m (some target) (attendedBit o) = some (why, [])) :
    exec (.move o) s = .next (s.answered codeMove o .refused why []) := by
  refine run_read _ _ _ _ _ _ _ kept takes ?_
  rw [judgeMove_of_position (s := s.entered codeMove o) h position, screenMotion_entered, screen]
  rfl

/-- A MOVE past the screen is refused by the first check that fails, the holder's lease renewed. -/
theorem exec_move_of_denied {s : State} {o : OrderFrame} {m : Mover} {target : Int} {why : Reason}
    (kept : s.Kept) (takes : s.Takes o) (h : moverOf o.target = some m)
    (position : positionOperand o s m = some target)
    (screen : screenMotion s o.station m (some target) (attendedBit o) = none)
    (denied : firstDenial (s.moveDenials o m target) = some (why, [])) :
    exec (.move o) s = .next ((s.attendedBy o.station m).answered codeMove o .refused why []) := by
  refine run_attended _ _ _ _ _ _ _ _ kept takes ?_
  rw [judgeMove_of_position (s := s.entered codeMove o) h position, screenMotion_entered, screen, judged_of_passed rfl,
    renewAttended_entered, moveScreened_eq, State.moveDenials_attendedBy_entered, judged_of_denied denied]
  rfl

/-- Without the claim the lease is nobody's to renew, and the state is as it was. -/
theorem exec_move_of_not_holder {s : State} {o : OrderFrame} {m : Mover} {target : Int}
    (kept : s.Kept) (takes : s.Takes o) (h : moverOf o.target = some m)
    (position : positionOperand o s m = some target)
    (screen : screenMotion s o.station m (some target) (attendedBit o) = none) (holds : s.holds o.station m = false) :
    exec (.move o) s = .next (s.answered codeMove o .refused .notHolder []) := by
  have refused := exec_move_of_denied (why := .notHolder) kept takes h position screen
    (by rw [State.moveDenials, holds]; rfl)
  rwa [State.attendedBy_of_not_holds holds] at refused

/-! ### HOME -/

theorem exec_home (o : OrderFrame) (s : State) : exec (.home o) s = run (arrive codeHome o (judgeHome o)) s := rfl

theorem judgeHome_of_no_mover {o : OrderFrame} (h : moverOf o.target = none) (r : OrderRef) (s : State) :
    judgeHome o r s = answer r .refused .badTarget [] s := by
  simp only [judgeHome, h, refuse]

theorem judgeHome_of_words {o : OrderFrame} {m : Mover} (h : moverOf o.target = some m) (words : o.words ≠ [])
    (r : OrderRef) (s : State) : judgeHome o r s = answer r .refused .badOperand [] s := by
  simp only [judgeHome, h]
  rw [judged_of_denied (by rw [firstDenial_noWords, if_neg words])]
  rfl

theorem judgeHome_of_bare {o : OrderFrame} {m : Mover} (h : moverOf o.target = some m) (bare : o.words = [])
    (r : OrderRef) (s : State) :
    judgeHome o r s =
      judged r [screenMotion s o.station m none (attendedBit o)]
        (fun s => homeScreened o m r (renewAttended o.station m s)) s := by
  simp only [judgeHome, h, judged, firstDenial_noWords, if_pos bare]

theorem exec_home_of_screen_denied {s : State} {o : OrderFrame} {m : Mover} {why : Reason}
    (kept : s.Kept) (takes : s.Takes o) (h : moverOf o.target = some m) (bare : o.words = [])
    (screen : screenMotion s o.station m none (attendedBit o) = some (why, [])) :
    exec (.home o) s = .next (s.answered codeHome o .refused why []) := by
  refine run_read _ _ _ _ _ _ _ kept takes ?_
  rw [judgeHome_of_bare h bare, screenMotion_entered, screen]
  rfl

/-- A HOME past the screen is refused by the first check that fails, the holder's lease renewed. -/
theorem exec_home_of_denied {s : State} {o : OrderFrame} {m : Mover} {why : Reason}
    (kept : s.Kept) (takes : s.Takes o) (h : moverOf o.target = some m) (bare : o.words = [])
    (screen : screenMotion s o.station m none (attendedBit o) = none)
    (denied : firstDenial (s.homeDenials o m) = some (why, [])) :
    exec (.home o) s = .next ((s.attendedBy o.station m).answered codeHome o .refused why []) := by
  refine run_attended _ _ _ _ _ _ _ _ kept takes ?_
  rw [judgeHome_of_bare h bare, screenMotion_entered, screen, judged_of_passed rfl, renewAttended_entered,
    homeScreened_eq, State.homeDenials_attendedBy_entered, judged_of_denied denied]
  rfl

theorem exec_home_of_not_holder {s : State} {o : OrderFrame} {m : Mover}
    (kept : s.Kept) (takes : s.Takes o) (h : moverOf o.target = some m) (bare : o.words = [])
    (screen : screenMotion s o.station m none (attendedBit o) = none) (holds : s.holds o.station m = false) :
    exec (.home o) s = .next (s.answered codeHome o .refused .notHolder []) := by
  have refused := exec_home_of_denied (why := .notHolder) kept takes h bare screen
    (by rw [State.homeDenials, holds]; rfl)
  rwa [State.attendedBy_of_not_holds holds] at refused

/-! ### The first check that fails -/

/-- For the holder the state check comes next, and after it the permit. -/
theorem firstDenial_moveDenials {s : State} {o : OrderFrame} {m : Mover} {target : Int}
    (holds : s.holds o.station m = true) :
    firstDenial (s.moveDenials o m target) =
      (moveDenial m (s.mover m) target).or (denyPermit s m (attendedBit o) (.toward target)) := by
  rw [State.moveDenials, holds]
  cases moveDenial m (s.mover m) target with
  | some d => rfl
  | none => cases denyPermit s m (attendedBit o) (.toward target) <;> rfl

/-- The states in which the state check of a MOVE passes. -/
theorem moveDenial_eq_none {m : Mover} {rec : MoverRecord} {target : Int}
    (h : rec.state = .idle ∨ (rec.state = .halted ∧ rec.valid = true) ∨
      (rec.state = .moving ∧ retargets m rec target = true)) : moveDenial m rec target = none := by
  rcases h with idle | ⟨halted, valid⟩ | ⟨moving, further⟩
  · simp only [moveDenial, idle]
  · simp only [moveDenial, halted, valid, Bool.not_true, deny_false]
  · simp only [moveDenial, moving, further, Bool.not_true, deny_false]

theorem moveDenial_of_unhomed {m : Mover} {rec : MoverRecord} {target : Int}
    (h : rec.state = .unhomed ∨ (rec.state = .halted ∧ rec.valid = false)) :
    moveDenial m rec target = some (.notHomed, []) := by
  rcases h with unhomed | ⟨halted, invalid⟩
  · simp only [moveDenial, unhomed]
  · simp only [moveDenial, halted, invalid, Bool.not_false, deny_true]

theorem moveDenial_of_faulted {m : Mover} {rec : MoverRecord} {target : Int} (h : rec.state = .faulted) :
    moveDenial m rec target = some (.moverFaulted, []) := by
  simp only [moveDenial, h]

theorem moveDenial_of_busy {m : Mover} {rec : MoverRecord} {target : Int}
    (h : rec.state = .homing ∨ rec.state = .settling ∨ rec.state = .recovering ∨ rec.state = .halting) :
    moveDenial m rec target = some (.busy, []) := by
  rcases h with h | h | h | h <;> simp only [moveDenial, h]

theorem moveDenial_of_moving {m : Mover} {rec : MoverRecord} {target : Int} (h : rec.state = .moving)
    (further : ¬retargets m rec target = true) : moveDenial m rec target = some (.busy, []) := by
  simp only [moveDenial, h, Bool.eq_false_iff.2 further, Bool.not_false, deny_true]

/-- Settles O28: each refusal is the first check that fails, before the screen, in it, or past it. -/
theorem moveAndHomeAreRefused : Obligations.MoveAndHomeAreRefused := by
  refine ⟨fun s o kept takes hm => ⟨?_, ?_⟩, fun s o m kept takes hm => ⟨?_, ?_⟩, ?_, ?_⟩
  · exact run_read _ _ _ _ _ _ _ kept takes (judgeMove_of_no_mover hm ..)
  · exact run_read _ _ _ _ _ _ _ kept takes (judgeHome_of_no_mover hm ..)
  · intro off
    exact run_read _ _ _ _ _ _ _ kept takes
      (judgeMove_of_no_position (s := s.entered codeMove o) hm (positionOperand_eq_none off) _)
  · intro words
    exact run_read _ _ _ _ _ _ _ kept takes (judgeHome_of_words hm words ..)
  · intro s o m w kept takes hm word low high target r attended valid allowed holds refused past present further
    have position := positionOperand_of_word (s := s) word low high
    have mode : s.motionModeValid o.station m (some target) = true ↔ valid := by
      simp [State.motionModeValid_iff, valid]
    refine ⟨fun invalid => ?_, fun hv lacks => ?_, fun hv ha free => ?_, fun hv ha held => ?_⟩
    · exact exec_move_of_screen_denied kept takes hm position
        (screenMotion_of_invalid (Bool.eq_false_iff.2 (mt mode.1 invalid)) _)
    · exact exec_move_of_screen_denied kept takes hm position (screenMotion_of_unattended (mode.2 hv) lacks)
    · exact exec_move_of_not_holder kept takes hm position (screenMotion_of_passed (mode.2 hv) ha)
        (Bool.eq_false_iff.2 (mt (s.holds_iff ..).1 free))
    · have first := firstDenial_moveDenials (target := target) ((s.holds_iff o.station m).2 held)
      have past_screen {why : Reason} (denied : firstDenial (s.moveDenials o m target) = some (why, [])) :=
        exec_move_of_denied kept takes hm position (screenMotion_of_passed (mode.2 hv) ha) denied
      have by_state {why : Reason} (denied : moveDenial m r target = some (why, [])) : refused past why :=
        past_screen (by rw [first, denied]; rfl)
      refine ⟨fun h => by_state (moveDenial_of_unhomed h), fun h => by_state (moveDenial_of_faulted h),
        fun h => by_state (moveDenial_of_busy h),
        fun h near => by_state (moveDenial_of_moving h (mt (retargets_iff ..).1 near)), fun h why permit => ?_⟩
      have passes : moveDenial m r target = none :=
        moveDenial_eq_none (h.imp_right (Or.imp_right (And.imp_right (retargets_iff ..).2)))
      exact past_screen (by rw [first, passes]; exact denyPermit_of_denied permit)
  · intro s o m kept takes hm bare attended valid allowed holds refused past
    have mode : s.motionModeValid o.station m none = true ↔ valid := by
      simp [State.motionModeValid_iff, valid]
    refine ⟨fun invalid => ?_, fun hv lacks => ?_, fun hv ha free => ?_, fun hv ha held => ?_⟩
    · exact exec_home_of_screen_denied kept takes hm bare
        (screenMotion_of_invalid (Bool.eq_false_iff.2 (mt mode.1 invalid)) _)
    · exact exec_home_of_screen_denied kept takes hm bare (screenMotion_of_unattended (mode.2 hv) lacks)
    · exact exec_home_of_not_holder kept takes hm bare (screenMotion_of_passed (mode.2 hv) ha)
        (Bool.eq_false_iff.2 (mt (s.holds_iff ..).1 free))
    · have holding : s.holds o.station m = true := (s.holds_iff o.station m).2 held
      have past_screen {why : Reason} (denied : firstDenial (s.homeDenials o m) = some (why, [])) : refused past why :=
        exec_home_of_denied kept takes hm bare (screenMotion_of_passed (mode.2 hv) ha) denied
      refine ⟨fun active => ?_, fun rests why permit => ?_⟩
      · exact past_screen (by rw [State.homeDenials, holding, active]; rfl)
      · have forbids : denyPermit s m (attendedBit o) .homing = some (why, []) := denyPermit_of_denied permit
        exact past_screen (by rw [State.homeDenials, holding, rests, forbids]; rfl)

end Sys2Proof.Machine

/-! RENEW (R68) and CLAIM (R70, R71). -/

namespace Sys2Proof.Machine

/-! ### A claim taken and renewed -/

@[simp] theorem State.entered_claim (s : State) (code : Byte) (o : OrderFrame) (m : Mover) :
    (s.entered code o).claim m = s.claim m := rfl

@[simp] theorem State.entered_setClaim (s : State) (code : Byte) (o : OrderFrame) (m : Mover) (c : ClaimRecord) :
    (s.entered code o).setClaim m c = (s.setClaim m c).entered code o := rfl

/-- The law of claims gives the holder a lease to renew. -/
theorem State.ClaimLaw.leased {s : State} (law : s.ClaimLaw) {n : Station} {m : Mover}
    (holds : s.holds n m = true) : (s.claim m).lease.isSome := by
  obtain ⟨-, leased, -⟩ := law m
  obtain ⟨holder, ending⟩ := (s.holds_iff n m).1 holds
  exact (leased n holder ending).1

/-- A renewal moves the deadline alone: the kind is set to what it was (R67). -/
theorem renewLease_of_leased {s : State} {m : Mover} (leased : (s.claim m).lease.isSome) :
    renewLease m s = s.setClaim m
      { s.claim m with deadline := some (s.now + leaseLength ((s.claim m).lease.getD .rest)) } := by
  obtain ⟨kind, lease⟩ := Option.isSome_iff_exists.1 leased
  simp only [renewLease, lease, setLease, State.modClaim_eq, Option.getD_some]

theorem leaseWords_of_leased {c : ClaimRecord} (leased : c.lease.isSome) :
    leaseWords c =
      [wordOfNat (c.lease.getD .rest).code, wordOfNat (leaseLength (c.lease.getD .rest) / 100)] := by
  obtain ⟨kind, lease⟩ := Option.isSome_iff_exists.1 leased
  simp only [leaseWords, lease, Option.getD_some]

theorem takeFree_eq (m : Mover) (n : Station) (s : State) :
    takeFree m n s = s.setClaim m
      { s.claim m with
        holder := .station n, ending := .notEnding, lease := some .rest, deadline := some (s.now + 120000) } := by
  simp only [takeFree, setLease, State.modClaim_eq, State.claim_setClaim_self, State.setClaim_now, leaseLength]
  simp only [State.setClaim, PerMover.set_set]

/-- An order answered at once that sets the claim record of one mover and changes nothing else. -/
theorem run_setClaim (code : Byte) (o : OrderFrame) (judge : OrderRef → State → State) (s : State) (m : Mover)
    (c : ClaimRecord) (res : Result) (why : Reason) (data : List Word) (kept : s.Kept) (takes : s.Takes o)
    (judgement : judge (s.nextRef o) (s.entered code o) =
      answer (s.nextRef o) res why data ((s.entered code o).setClaim m c)) :
    run (arrive code o judge) s = .next ((s.setClaim m c).answered code o res why data) :=
  run_done code o judge s (s.setClaim m c) res why data kept takes judgement rfl rfl rfl rfl rfl rfl rfl

/-! ### RENEW -/

theorem exec_renew (o : OrderFrame) (s : State) : exec (.renew o) s = run (arrive codeRenew o (judgeRenew o)) s := rfl

theorem judgeRenew_of_no_mover {o : OrderFrame} (h : moverOf o.target = none) (r : OrderRef) (s : State) :
    judgeRenew o r s = answer r .refused .badTarget [] s := by
  simp only [judgeRenew, h, refuse]

theorem judgeRenew_of_words {o : OrderFrame} {m : Mover} (h : moverOf o.target = some m) (words : o.words ≠ [])
    (r : OrderRef) (s : State) : judgeRenew o r s = answer r .refused .badOperand [] s := by
  simp only [judgeRenew, h]
  rw [judged_of_denied (by rw [firstDenial_noWords, if_neg words])]
  rfl

/-- A bare RENEW of a mover is judged by the claim check alone. -/
theorem judgeRenew_of_bare {o : OrderFrame} {m : Mover} (h : moverOf o.target = some m) (bare : o.words = [])
    (r : OrderRef) (s : State) :
    judgeRenew o r s =
      judged r [deny (!s.holds o.station m) .notHolder]
        (fun s => done r (leaseWords (s.claim m)) (renewLease m s)) s := by
  simp only [judgeRenew, h, judged, firstDenial_noWords, if_pos bare]

theorem exec_renew_of_not_holder {s : State} {o : OrderFrame} {m : Mover} (kept : s.Kept) (takes : s.Takes o)
    (h : moverOf o.target = some m) (bare : o.words = []) (holds : s.holds o.station m = false) :
    exec (.renew o) s = .next (s.answered codeRenew o .refused .notHolder []) := by
  refine run_read _ _ _ _ _ _ _ kept takes ?_
  rw [judgeRenew_of_bare h bare, State.entered_holds, holds]
  rfl

theorem exec_renew_of_holder {s : State} {o : OrderFrame} {m : Mover} (kept : s.Kept) (law : s.ClaimLaw)
    (takes : s.Takes o) (h : moverOf o.target = some m) (bare : o.words = []) (holds : s.holds o.station m = true) :
    exec (.renew o) s = .next
      ((s.setClaim m
        { s.claim m with deadline := some (s.now + leaseLength ((s.claim m).lease.getD .rest)) }).answered
        codeRenew o .done .noReason
        [wordOfNat ((s.claim m).lease.getD .rest).code,
         wordOfNat (leaseLength ((s.claim m).lease.getD .rest) / 100)]) := by
  have leased := law.leased holds
  refine run_setClaim _ _ _ _ _ _ _ _ _ kept takes ?_
  rw [judgeRenew_of_bare h bare, State.entered_holds, holds, judged_of_passed rfl, State.entered_claim,
    leaseWords_of_leased leased, renewLease_of_leased (s := s.entered codeRenew o) leased]
  rfl

/-! ### The checks of CLAIM -/

/-- The checks of a bare CLAIM of a mover, in their order: the Order Screen, and a claim of the orderer's that ends. -/
def State.claimDenials (s : State) (o : OrderFrame) (m : Mover) : List (Option Denial) :=
  [needs s o.station fun p => p.movers.get m,
   deny ((s.claim m).holder == .station o.station && (s.claim m).ending != .notEnding) .busy]

/-- The checks do not hang on the intakes. -/
@[simp] theorem State.claimDenials_entered (s : State) (code : Byte) (o p : OrderFrame) (m : Mover) :
    (s.entered code p).claimDenials o m = s.claimDenials o m := rfl

theorem firstDenial_claimDenials (s : State) (o : OrderFrame) (m : Mover) :
    firstDenial (s.claimDenials o m) =
      if (s.profile o.station).movers.get m = false then some (.noAuthority, [])
      else if (s.claim m).holder = .station o.station ∧ (s.claim m).ending ≠ .notEnding then some (.busy, [])
      else none := by
  simp only [State.claimDenials, needs]
  cases (s.profile o.station).movers.get m with
  | false => rfl
  | true =>
    by_cases ends : (s.claim m).holder = .station o.station ∧ (s.claim m).ending ≠ .notEnding
    · rw [if_pos ends, beq_iff_eq.2 ends.1, bne_iff_ne.2 ends.2]
      rfl
    · have passes : ((s.claim m).holder == .station o.station && (s.claim m).ending != .notEnding) = false :=
        Bool.eq_false_iff.2 (by simpa only [ne_eq, Bool.and_eq_true, beq_iff_eq, bne_iff_ne] using ends)
      rw [if_neg ends, passes]
      rfl

theorem judgeClaim_of_no_mover {o : OrderFrame} (h : moverOf o.target = none) (r : OrderRef) (s : State) :
    judgeClaim o r s = answer r .refused .badTarget [] s := by
  simp only [judgeClaim, h, refuse]

theorem judgeClaim_of_words {o : OrderFrame} {m : Mover} (h : moverOf o.target = some m) (words : o.words ≠ [])
    (r : OrderRef) (s : State) : judgeClaim o r s = answer r .refused .badOperand [] s := by
  simp only [judgeClaim, h]
  rw [judged_of_denied (by rw [firstDenial_noWords, if_neg words])]
  rfl

theorem judgeClaim_of_bare {o : OrderFrame} {m : Mover} (h : moverOf o.target = some m) (bare : o.words = [])
    (r : OrderRef) (s : State) :
    judgeClaim o r s = judged r (s.claimDenials o m) (claimScreened o m r) s := by
  simp only [judgeClaim, h, judged, firstDenial_noWords, if_pos bare, State.claimDenials]

theorem exec_claim (o : OrderFrame) (s : State) : exec (.claim o) s = run (arrive codeClaim o (judgeClaim o)) s := rfl

theorem exec_claim_of_denied {s : State} {o : OrderFrame} {m : Mover} {why : Reason} (kept : s.Kept)
    (takes : s.Takes o) (h : moverOf o.target = some m) (bare : o.words = [])
    (denied : firstDenial (s.claimDenials o m) = some (why, [])) :
    exec (.claim o) s = .next (s.answered codeClaim o .refused why []) := by
  refine run_read _ _ _ _ _ _ _ kept takes ?_
  rw [judgeClaim_of_bare h bare, State.claimDenials_entered, judged_of_denied denied]
  rfl

/-! ### CLAIM past its checks, by the claim's holder -/

theorem claimScreened_of_free {o : OrderFrame} {m : Mover} {s : State} (free : (s.claim m).holder = .nobody)
    (r : OrderRef) : claimScreened o m r s = done r [] (takeFree m o.station s) := by
  simp only [claimScreened, free, if_true]

theorem claimScreened_of_own {o : OrderFrame} {m : Mover} {s : State} (own : (s.claim m).holder = .station o.station)
    (r : OrderRef) : claimScreened o m r s = done r [] (renewLease m s) := by
  simp only [claimScreened, own, reduceCtorEq, if_false, if_true]

/-- A claim that another station or LOCAL holds. -/
theorem claimScreened_of_other {o : OrderFrame} {m : Mover} {s : State} (held : (s.claim m).holder ≠ .nobody)
    (other : (s.claim m).holder ≠ .station o.station) (r : OrderRef) :
    claimScreened o m r s =
      if o.attrs.getLsbD 2 = false then answer r .refused .heldBy [wordOfNat (s.claim m).holder.code] s
      else if ∃ w ∈ (s.claim m).waiters, w.station = o.station then answer r .refused .busy [] s
      else s.setClaim m { s.claim m with waiters := (s.claim m).waiters ++ [r] } := by
  simp only [claimScreened, if_neg held, if_neg other, waitBit, Bool.not_eq_true', List.any_eq_true, beq_iff_eq]
  rfl

section Screened

variable {s : State} {o : OrderFrame} {m : Mover} (kept : s.Kept) (takes : s.Takes o)
  (h : moverOf o.target = some m) (bare : o.words = []) (passed : firstDenial (s.claimDenials o m) = none)

include h bare passed in
theorem judgeClaim_of_passed (r : OrderRef) :
    judgeClaim o r (s.entered codeClaim o) = claimScreened o m r (s.entered codeClaim o) := by
  rw [judgeClaim_of_bare h bare, State.claimDenials_entered, judged_of_passed passed]

include kept takes h bare passed

theorem exec_claim_of_free (free : (s.claim m).holder = .nobody) :
    exec (.claim o) s = .next
      ((s.setClaim m
        { s.claim m with
          holder := .station o.station, ending := .notEnding, lease := some .rest, deadline := some (s.now + 120000) }
        ).answered codeClaim o .done .noReason []) := by
  refine run_setClaim _ _ _ _ _ _ _ _ _ kept takes ?_
  rw [judgeClaim_of_passed h bare passed, claimScreened_of_free (s := s.entered codeClaim o) free, takeFree_eq]
  rfl

theorem exec_claim_of_own (own : (s.claim m).holder = .station o.station) (leased : (s.claim m).lease.isSome) :
    exec (.claim o) s = .next
      ((s.setClaim m
        { s.claim m with deadline := some (s.now + leaseLength ((s.claim m).lease.getD .rest)) }).answered
        codeClaim o .done .noReason []) := by
  refine run_setClaim _ _ _ _ _ _ _ _ _ kept takes ?_
  rw [judgeClaim_of_passed h bare passed, claimScreened_of_own (s := s.entered codeClaim o) own,
    renewLease_of_leased (s := s.entered codeClaim o) leased]
  rfl

/-- A claim of another's is refused at once, or the order stands WAITING at the end of the wait list (R71). -/
theorem exec_claim_of_other (held : (s.claim m).holder ≠ .nobody)
    (other : (s.claim m).holder ≠ .station o.station) :
    exec (.claim o) s = .next (
      if o.attrs.getLsbD 2 = false then
        s.answered codeClaim o .refused .heldBy [wordOfNat (s.claim m).holder.code]
      else if ∃ w ∈ (s.claim m).waiters, w.station = o.station then s.answered codeClaim o .refused .busy []
      else (s.setClaim m { s.claim m with waiters := (s.claim m).waiters ++ [s.nextRef o] }).entered codeClaim o) := by
  have judgement := judgeClaim_of_passed h bare passed (s.nextRef o)
  rw [claimScreened_of_other (s := s.entered codeClaim o) held other, State.entered_claim] at judgement
  by_cases now : o.attrs.getLsbD 2 = false
  · rw [if_pos now] at judgement ⊢
    exact run_read _ _ _ _ _ _ _ kept takes judgement
  · rw [if_neg now] at judgement ⊢
    by_cases waits : ∃ w ∈ (s.claim m).waiters, w.station = o.station
    · rw [if_pos waits] at judgement ⊢
      exact run_read _ _ _ _ _ _ _ kept takes judgement
    · rw [if_neg waits] at judgement ⊢
      exact run_waiting _ _ _ _ _ kept takes judgement rfl rfl rfl kept.roomUsed kept.fencesWait

end Screened

/-- Settles O12: RENEW by its checks and the lease the law of claims gives the holder; CLAIM by its checks, and then by
the claim's holder. -/
theorem renewAndClaim : Obligations.RenewAndClaim := by
  constructor
  · intro s o kept law takes
    cases hm : moverOf o.target with
    | none => exact run_read _ _ _ _ _ _ _ kept takes (judgeRenew_of_no_mover hm ..)
    | some m =>
      by_cases bare : o.words = []
      · simp only [bare, ne_eq, not_true, if_false, ← State.holds_iff]
        cases holds : s.holds o.station m with
        | false =>
          simp only [Bool.false_eq_true, not_false_iff, if_true]
          exact exec_renew_of_not_holder kept takes hm bare holds
        | true =>
          simp only [not_true, if_false]
          exact exec_renew_of_holder kept law takes hm bare holds
      · simp only [bare, ne_eq, not_false_iff, if_true]
        exact run_read _ _ _ _ _ _ _ kept takes (judgeRenew_of_words hm bare ..)
  · intro s o kept law takes
    cases hm : moverOf o.target with
    | none => exact run_read _ _ _ _ _ _ _ kept takes (judgeClaim_of_no_mover hm ..)
    | some m =>
      dsimp only
      by_cases words : o.words ≠ []
      · rw [if_pos words]
        exact run_read _ _ _ _ _ _ _ kept takes (judgeClaim_of_words hm words ..)
      have bare : o.words = [] := Classical.not_not.1 words
      have first := firstDenial_claimDenials s o m
      rw [if_neg words]
      by_cases lacks : (s.profile o.station).movers.get m = false
      · rw [if_pos lacks] at first ⊢
        exact exec_claim_of_denied kept takes hm bare first
      rw [if_neg lacks] at first ⊢
      by_cases ends : (s.claim m).holder = .station o.station ∧ (s.claim m).ending ≠ .notEnding
      · rw [if_pos ends] at first ⊢
        exact exec_claim_of_denied kept takes hm bare first
      rw [if_neg ends] at first ⊢
      by_cases free : (s.claim m).holder = .nobody
      · rw [if_pos free]
        exact exec_claim_of_free kept takes hm bare first free
      rw [if_neg free]
      by_cases own : (s.claim m).holder = .station o.station
      · have ending : (s.claim m).ending = .notEnding := Classical.not_not.1 (not_and.1 ends own)
        rw [if_pos own]
        exact exec_claim_of_own kept takes hm bare first own (law.leased ((s.holds_iff ..).2 ⟨own, ending⟩))
      · rw [if_neg own]
        exact exec_claim_of_other kept takes hm bare first free own

end Sys2Proof.Machine

/-! READ_CONDITIONS (R101) and READ_MODULE (R140). -/

namespace Sys2Proof.Machine

/-! ### READ_CONDITIONS -/

theorem exec_readConditions (o : OrderFrame) (s : State) :
    exec (.readConditions o) s = run (arrive codeReadConditions o (judgeReadConditions o)) s := rfl

/-- The words read of the conditions do not hang on the intakes. -/
theorem conditionWords_entered (s : State) (code : Byte) (o : OrderFrame) :
    conditionWords (s.entered code o) = conditionWords s := rfl

theorem State.switchesSeen_iff (s : State) (m : Mover) :
    s.switchesSeen m = true ↔
      s.cond.seen.get m = true ∧ (s.module (s.params.modules.get m)).present = true :=
  Bool.and_eq_true_iff

theorem State.switchWord_eq (s : State) (m : Mover) (made : Bool) :
    s.switchWord m made =
      if s.cond.seen.get m = true ∧ (s.module (s.params.modules.get m)).present = true then flagWord made
      else -1 := by
  simp only [State.switchWord, s.switchesSeen_iff m]

/-! ### READ_MODULE -/

theorem exec_readModule (o : OrderFrame) (s : State) :
    exec (.readModule o) s = run (arrive codeReadModule o (judgeReadModule o)) s := rfl

theorem moduleOf_of_lt {w : Word} (h : w.toNat < 32) : moduleOf w = some ⟨w.toNat, h⟩ := dif_pos h

theorem moduleOf_of_not_lt {w : Word} (h : ¬w.toNat < 32) : moduleOf w = none := dif_neg h

/-- The words read of a module do not hang on the intakes. -/
theorem moduleWords_entered (s : State) (code : Byte) (o : OrderFrame) (k : Fin 32) :
    moduleWords (s.entered code o) k = moduleWords s k := rfl

/-- The class word is 1 for SLOW, a score below 8 (R133). -/
theorem ModuleRecord.not_steady (r : ModuleRecord) : (!r.steady) = decide (r.score < 8) := by
  rw [ModuleRecord.steady, ← decide_not]
  exact decide_eq_decide.2 Nat.not_le

theorem moduleWords_eq (s : State) (k : Fin 32) :
    moduleWords s k =
      [flagWord (!(s.module k).present), wordOfNat (s.module k).score, flagWord (decide ((s.module k).score < 8)),
        wordOfNat (s.inFlightCount k),
        wordOfNat (s.queue.filter fun f => f.module == k && !f.stage.isInFlight).length,
        flagWord (s.inUse k), (s.module k).failed]
        ++ ((s.module k).snapshot.map fun v => v.toList).getD (List.replicate 16 (-1)) := by
  rw [moduleWords, ModuleRecord.not_steady]
  cases (s.module k).snapshot <;> rfl

theorem judgeReadModule_of_no_module {o : OrderFrame} (h : moduleOf o.target = none) (r : OrderRef) (s : State) :
    judgeReadModule o r s = answer r .refused .badTarget [] s := by
  simp only [judgeReadModule, h, refuse]

/-- READ_MODULE of a module: words are refused; a bare one is DONE with the words of the module. -/
theorem judgeReadModule_of_module {o : OrderFrame} {k : Fin 32} (h : moduleOf o.target = some k) (r : OrderRef)
    (s : State) :
    judgeReadModule o r s =
      if o.words = [] then answer r .done .noReason (moduleWords s k) s
      else answer r .refused .badOperand [] s := by
  simp only [judgeReadModule, h, judged, firstDenial_noWords]
  by_cases bare : o.words = [] <;> simp only [bare, if_true, if_false] <;> rfl

/-- Settles O4: both orders are answered at once and change nothing else, READ_CONDITIONS by the checks of an order with
target 0 and no words, READ_MODULE by whether its target names a module. -/
theorem readConditionsAndReadModule : Obligations.ReadConditionsAndReadModule := by
  constructor
  · intro s o kept takes
    rw [exec_readConditions]
    simp only [← State.switchWord_eq]
    refine run_bare _ _ (fun r s => done r (conditionWords s) s) _ _ kept takes ?_
    exact run_read _ _ _ _ .done .noReason (conditionWords s) kept takes (by rw [conditionWords_entered]; rfl)
  · intro s o kept takes
    rw [exec_readModule]
    by_cases names : o.target.toNat < 32
    · have module := moduleOf_of_lt names
      rw [dif_pos names]
      by_cases bare : o.words = []
      · simp only [bare, ne_eq, not_true, if_false, ← moduleWords_eq]
        exact run_read _ _ _ _ _ _ _ kept takes
          (by rw [judgeReadModule_of_module module, if_pos bare, moduleWords_entered])
      · simp only [bare, ne_eq, not_false_iff, if_true]
        exact run_read _ _ _ _ _ _ _ kept takes (by rw [judgeReadModule_of_module module, if_neg bare])
    · rw [dif_neg names]
      exact run_read _ _ _ _ _ _ _ kept takes (judgeReadModule_of_no_module (moduleOf_of_not_lt names) ..)

end Sys2Proof.Machine

/-! CLEAR_ESTOP (R93) and CLEAR_SWIMMER (R95). -/

namespace Sys2Proof.Machine

/-! ### A change of the conditions -/

/-- The conditions become `c`: the event is raised in every attached station and the Force List evaluated (R102). -/
def State.conditionsBecome (s : State) (e : Event) (c : ConditionSet) : State :=
  evaluateForces (raiseAll e { s with cond := c })

theorem State.conditionsBecome_entered (s : State) (e : Event) (c : ConditionSet) (code : Byte) (o : OrderFrame) :
    (s.entered code o).conditionsBecome e c = (s.conditionsBecome e c).entered code o := by
  have raised := raiseAll_entered e { s with cond := c } code o
  rw [State.conditionsBecome, State.conditionsBecome, ← evaluateForces_entered, ← raised]
  rfl

/-- The change writes the conditions, status sets, points and the queue. -/
theorem State.conditionsBecome_touches (s : State) (e : Event) (c : ConditionSet) :
    s.conditionsBecome e c =
      { s with
        cond := c
        stations := (raiseAll e s).stations
        points := (s.conditionsBecome e c).points
        queue := (s.conditionsBecome e c).queue } :=
  (evaluateForces_writes (raiseAll e { s with cond := c })).only

theorem State.conditionsBecome_station (s : State) (e : Event) (c : ConditionSet) (n : Station) :
    (s.conditionsBecome e c).station n = (raiseAll e s).station n := by
  rw [State.conditionsBecome_touches]; rfl

/-- An order answered at once that changes the conditions with their event and forces. -/
theorem run_conditionsBecome (code : Byte) (o : OrderFrame) (judge : OrderRef → State → State) (s : State)
    (e : Event) (c : ConditionSet) (res : Result) (why : Reason) (data : List Word) (kept : s.Kept) (takes : s.Takes o)
    (judgement : judge (s.nextRef o) (s.entered code o) =
      answer (s.nextRef o) res why data ((s.entered code o).conditionsBecome e c)) :
    run (arrive code o judge) s = .next (setLines ((s.conditionsBecome e c).answered code o res why data)) := by
  have touches := s.conditionsBecome_touches e c
  have serial : (s.conditionsBecome e c).nextSerial = s.nextSerial := by rw [touches]
  have fences : (s.conditionsBecome e c).fences = s.fences := by rw [touches]
  obtain ⟨intake, attached⟩ := raiseAll_intake e s o.station
  refine run_answered_lines code o judge s _ res why data kept takes ?_ ?_ ?_ serial ?_ ?_ ?_
  · rw [judgement, State.conditionsBecome_entered, State.nextRef, State.nextRef, serial]
  · rw [State.conditionsBecome_station, attached]
    exact takes.attached
  · rw [State.conditionsBecome_station, intake]
  · rw [touches]
  · rw [touches]
    exact kept.roomUsed
  · intro f waits
    rw [fences] at waits
    exact ((evaluateForces_writes _).fences f).trans (kept.fencesWait f waits)

/-! ### The checks -/

/-- The checks of a clearing past those of a bare order, in their order: the Order Screen, and the condition that bars
it. -/
def State.clearingDenials (s : State) (n : Station) (has : Profile → Bool) (bars : State → Bool) (why : Reason) :
    List (Option Denial) :=
  [needs s n has, deny (bars s) why]

theorem firstDenial_clearingDenials (s : State) (n : Station) (has : Profile → Bool) (bars : State → Bool)
    (why : Reason) :
    firstDenial (s.clearingDenials n has bars why) =
      if has (s.profile n) = false then some (.noAuthority, [])
      else if bars s = true then some (why, [])
      else none := by
  rw [State.clearingDenials, needs]
  cases has (s.profile n) with
  | false => rfl
  | true => cases bars s <;> rfl

/-- The checks do not hang on the intakes where the condition does not. -/
theorem State.clearingDenials_entered {s : State} {code : Byte} {o : OrderFrame} {bars : State → Bool}
    (seen : bars (s.entered code o) = bars s) (n : Station) (has : Profile → Bool) (why : Reason) :
    (s.entered code o).clearingDenials n has bars why = s.clearingDenials n has bars why := by
  rw [State.clearingDenials, seen]; rfl

/-- An order with target 0 and no operand words that needs an authority and that one condition bars: its refusals in
their order, and past them what it comes to. -/
theorem run_clearing (code : Byte) (o : OrderFrame) (has : Profile → Bool) (bars : State → Bool) (why : Reason)
    (go : OrderRef → State → State) (s t : State) (kept : s.Kept) (takes : s.Takes o)
    (seen : bars (s.entered code o) = bars s) (h : run (arrive code o go) s = .next t) :
    run (arrive code o fun r s => judged r (bareChecks o ++ s.clearingDenials o.station has bars why) (go r) s) s =
      .next (
        if o.target ≠ 0 then s.answered code o .refused .badTarget []
        else if o.words ≠ [] then s.answered code o .refused .badOperand []
        else if has (s.profile o.station) = false then s.answered code o .refused .noAuthority []
        else if bars s = true then s.answered code o .refused why []
        else t) := by
  simp only [judged_append]
  refine run_bare code o (fun r s => judged r (s.clearingDenials o.station has bars why) (go r) s) s _ kept takes ?_
  have first := firstDenial_clearingDenials s o.station has bars why
  rw [← State.clearingDenials_entered seen] at first
  by_cases lacks : has (s.profile o.station) = false
  · rw [if_pos lacks] at first ⊢
    exact run_read _ _ _ _ _ _ _ kept takes (judged_of_denied first ..)
  rw [if_neg lacks] at first ⊢
  by_cases barred : bars s = true
  · rw [if_pos barred] at first ⊢
    exact run_read _ _ _ _ _ _ _ kept takes (judged_of_denied first ..)
  rw [if_neg barred] at first ⊢
  rw [← h, run_taken _ _ _ _ takes, run_taken _ _ _ _ takes, judged_of_passed first]

/-! ### The clearing -/

theorem clearEstop_eq (s : State) :
    clearEstop s = if s.cond.latch then s.conditionsBecome .estopChange { s.cond with latch := false } else s := rfl

theorem clearSwimmer_eq (s : State) :
    clearSwimmer s = if s.cond.swimmer then s.conditionsBecome .swimmerChange { s.cond with swimmer := false } else s :=
  rfl

/-- What is set is cleared and the order is DONE with 0; where nothing is set it is DONE without an event. -/
theorem run_cleared (code : Byte) (o : OrderFrame) (clear : State → State) (isSet : Bool) (s : State) (e : Event)
    (c : ConditionSet) (kept : s.Kept) (takes : s.Takes o)
    (clears : clear (s.entered code o) =
      if isSet then (s.entered code o).conditionsBecome e c else s.entered code o) :
    run (arrive code o fun r s => done r [0] (clear s)) s =
      .next (
        if isSet then setLines ((s.conditionsBecome e c).answered code o .done .noReason [0])
        else s.answered code o .done .noReason [0]) := by
  cases isSet with
  | true => exact run_conditionsBecome _ _ _ _ _ _ _ _ _ kept takes (congrArg (done (s.nextRef o) [0]) clears)
  | false => exact run_read _ _ _ _ _ _ _ kept takes (congrArg (done (s.nextRef o) [0]) clears)

theorem exec_clearEstop (o : OrderFrame) (s : State) :
    exec (.clearEstop o) s =
      run (arrive codeClearEstop o fun r s =>
        judged r (bareChecks o ++ s.clearingDenials o.station (fun p => p.mode) State.anyLoopOpen .permitEstop)
          (fun s => done r [0] (clearEstop s)) s) s := rfl

theorem exec_clearSwimmer (o : OrderFrame) (s : State) :
    exec (.clearSwimmer o) s =
      run (arrive codeClearSwimmer o fun r s =>
        judged r
          (bareChecks o ++ s.clearingDenials o.station (fun p => p.attend) (fun s => s.cond.matOccupied) .permitSwimmer)
          (fun s => done r [0] (clearSwimmer s)) s) s := rfl

theorem State.anyLoopOpen_iff (s : State) :
    s.anyLoopOpen = true ↔ s.cond.bowOpen = true ∨ s.cond.sternOpen = true ∨ s.cond.garageOpen = true := by
  simp only [State.anyLoopOpen, Bool.or_eq_true, or_assoc]

/-- Settles O13: each order runs through its checks to the clearing of the latch or the flag. -/
theorem clearEstopAndClearSwimmer : Obligations.ClearEstopAndClearSwimmer := by
  constructor
  · intro s o kept takes
    have cleared := run_cleared codeClearEstop o clearEstop s.cond.latch s .estopChange { s.cond with latch := false }
      kept takes (clearEstop_eq _)
    rw [exec_clearEstop]
    simp only [← s.anyLoopOpen_iff]
    exact run_clearing _ _ _ _ _ _ _ _ kept takes rfl cleared
  · intro s o kept takes
    have cleared := run_cleared codeClearSwimmer o clearSwimmer s.cond.swimmer s .swimmerChange
      { s.cond with swimmer := false } kept takes (clearSwimmer_eq _)
    rw [exec_clearSwimmer]
    exact run_clearing _ _ _ _ _ _ _ _ kept takes rfl cleared

end Sys2Proof.Machine

/-! LIST_HELD (R115). -/

namespace Sys2Proof.Machine

/-! ### The words of an entry -/

theorem heldWords_of_setPoint {h : HeldEntry} {p : Nat} {level fade : Int} (what : h.what = .setPoint p level fade) :
    heldWords h =
      [h.hold ++ 0x02#8, BitVec.ofNat 8 (stationNumber h.order.station) ++ h.marks.setWidth 8, wordOfNat p] := by
  rw [heldWords, what]; rfl

theorem heldWords_of_recall {h : HeldEntry} {zone scene : Nat} (what : h.what = .recall zone scene) :
    heldWords h =
      [h.hold ++ 0x03#8, BitVec.ofNat 8 (stationNumber h.order.station) ++ h.marks.setWidth 8, wordOfNat zone] := by
  rw [heldWords, what]; rfl

/-- Words 6 and 7 of a held SET_POINT are the ordered level and fade. -/
theorem heldDetail_of_setPoint {h : HeldEntry} {p : Nat} {level fade : Int} (what : h.what = .setPoint p level fade)
    (now : Nat) :
    heldDetail now h =
      [h.hold.setWidth 16, wordOfNat (stationNumber h.order.station), h.order.tag.setWidth 16]
        ++ [0x02#16, wordOfNat p, wordOf level, wordOf fade]
        ++ [h.marks.setWidth 16, wordOfNat ((h.deadline - now + 99) / 100)] := by
  rw [heldDetail, heldOperands, what]; rfl

/-- Words 6 and 7 of a held RECALL_SCENE are the judged scene and 0. -/
theorem heldDetail_of_recall {h : HeldEntry} {zone scene : Nat} (what : h.what = .recall zone scene) (now : Nat) :
    heldDetail now h =
      [h.hold.setWidth 16, wordOfNat (stationNumber h.order.station), h.order.tag.setWidth 16]
        ++ [0x03#16, wordOfNat zone, wordOfNat h.judged, 0]
        ++ [h.marks.setWidth 16, wordOfNat ((h.deadline - now + 99) / 100)] := by
  rw [heldDetail, heldOperands, what]; rfl

/-! ### The judgement -/

theorem exec_listHeld (o : OrderFrame) (s : State) :
    exec (.listHeld o) s = run (arrive codeListHeld o (judgeListHeld o)) s := rfl

/-- Which entry has a hold number does not hang on the intakes. -/
theorem State.entered_heldEntry? (s : State) (code : Byte) (o : OrderFrame) (w : Word) :
    (s.entered code o).heldEntry? w = s.heldEntry? w := rfl

theorem judgeListHeld_of_target {o : OrderFrame} (target : o.target ≠ 0) (r : OrderRef) (s : State) :
    judgeListHeld o r s = answer r .refused .badTarget [] s := by
  rw [judgeListHeld, if_pos target, refuse]

theorem judgeListHeld_of_bare {o : OrderFrame} (target : o.target = 0) (bare : o.words = []) (r : OrderRef)
    (s : State) :
    judgeListHeld o r s = answer r .done .noReason (s.held.flatMap heldWords) s := by
  simp only [judgeListHeld, target, ne_eq, not_true, if_false, bare, done]

theorem judgeListHeld_of_entry {o : OrderFrame} {w : Word} {s : State} {h : HeldEntry} (target : o.target = 0)
    (one : o.words = [w]) (entry : s.heldEntry? w = some h) (r : OrderRef) :
    judgeListHeld o r s = answer r .done .noReason (heldDetail s.now h) s := by
  simp only [judgeListHeld, target, ne_eq, not_true, if_false, one, entry, done]

theorem judgeListHeld_of_no_entry {o : OrderFrame} {w : Word} {s : State} (target : o.target = 0)
    (one : o.words = [w]) (unused : s.heldEntry? w = none) (r : OrderRef) :
    judgeListHeld o r s = answer r .refused .badOperand [] s := by
  simp only [judgeListHeld, target, ne_eq, not_true, if_false, one, unused, refuse]

theorem judgeListHeld_of_more {o : OrderFrame} {v w : Word} {rest : List Word} (target : o.target = 0)
    (more : o.words = v :: w :: rest) (r : OrderRef) (s : State) :
    judgeListHeld o r s = answer r .refused .badOperand [] s := by
  simp only [judgeListHeld, target, ne_eq, not_true, if_false, more, refuse]

/-- A LIST_HELD that is answered DONE, with its data words written out. -/
theorem run_listHeld_done {s : State} {o : OrderFrame} {data shown : List Word} (kept : s.Kept) (takes : s.Takes o)
    (judgement : judgeListHeld o (s.nextRef o) (s.entered codeListHeld o) =
      answer (s.nextRef o) .done .noReason data (s.entered codeListHeld o))
    (words : data = shown) :
    run (arrive codeListHeld o (judgeListHeld o)) s = .next (s.answered codeListHeld o .done .noReason shown) := by
  rw [run_read _ _ _ _ _ _ _ kept takes judgement, words]

/-- Settles O5: each case of the judgement is an order answered at once that changes nothing else, with the words of
every entry or of one. -/
theorem listHeldAnswersTheList : Obligations.ListHeldAnswersTheList := by
  intro s o kept takes
  rw [exec_listHeld]
  by_cases target : o.target = 0
  · rw [if_neg (not_not_intro target)]
    rcases words : o.words with _ | ⟨w, _ | ⟨v, rest⟩⟩
    · refine run_listHeld_done kept takes (judgeListHeld_of_bare target words ..)
        (congrArg (fun entryWords => s.held.flatMap entryWords) (funext fun h => ?_))
      rcases what : h.what with ⟨p, level, fade⟩ | ⟨zone, scene⟩
      · exact heldWords_of_setPoint what
      · exact heldWords_of_recall what
    · dsimp only
      have seen := s.entered_heldEntry? codeListHeld o w
      cases entry : s.held.find? fun h => h.hold.toNat == w.toNat with
      | none =>
        exact run_read _ _ _ _ _ _ _ kept takes (judgeListHeld_of_no_entry target words (seen.trans entry) _)
      | some h =>
        refine run_listHeld_done kept takes (judgeListHeld_of_entry target words (seen.trans entry) _) ?_
        rcases what : h.what with ⟨p, level, fade⟩ | ⟨zone, scene⟩
        · exact heldDetail_of_setPoint what s.now
        · exact heldDetail_of_recall what s.now
    · exact run_read _ _ _ _ _ _ _ kept takes (judgeListHeld_of_more target words ..)
  · rw [if_pos target]
    exact run_read _ _ _ _ _ _ _ kept takes (judgeListHeld_of_target target ..)

end Sys2Proof.Machine

/-! Arrivals that are not taken (R162), intake refusals sent, and orders of unknown code (R165). -/

namespace Sys2Proof.Machine

/-! ### A step that sets one Station Record -/

theorem run_setStation {f : State → State} {s : State} {n : Station} {r : StationRecord} (kept : s.Kept)
    (running : s.heldDown = false) (sets : f s = s.setStation n r) : run f s = .next (setLines (s.setStation n r)) := by
  rw [run_live _ _ running, sets, finish_eq_setLines (s.setStation n r) kept.roomUsed kept.fencesWait]
  rfl

/-- Where the record's line already stands as R158 asks, setting the lines again changes nothing. -/
theorem run_setStation_of_line {f : State → State} {s : State} {n : Station} {r : StationRecord} (kept : s.Kept)
    (running : s.heldDown = false) (sets : f s = s.setStation n r) (line : r.atn = lineOf s.heldDown r) :
    run f s = .next (s.setStation n r) := by
  rw [run_setStation kept running sets, setLines_of_set]
  intro k
  by_cases same : k = n
  · rw [same, State.station_setStation_self]
    exact line
  · rw [State.station_setStation_of_ne _ _ same]
    exact kept.linesSet k

/-! ### Arrivals that are not taken -/

/-- Every order of Table 9-4 reaches its judgement through the port and the intake. -/
theorem exec_orderCommand {mk : OrderFrame → Instr} (command : mk ∈ orderCommands) (o : OrderFrame) (s : State) :
    ∃ code judge, exec (mk o) s = run (arrive code o judge) s := by
  revert mk
  simp only [orderCommands, List.forall_mem_cons, List.not_mem_nil, false_implies, implies_true, and_true]
  and_intros
  all_goals exact ⟨_, _, rfl⟩

theorem exec_unknownOrder (code : Byte) (o : OrderFrame) (s : State) :
    exec (.unknownOrder code o) s = run (arrive code o (judgeOf code o)) s := rfl

/-- What the port does with an arrival it does not take: it hunts again and places the refusal. -/
def State.notTaken (s : State) (o : OrderFrame) (why : Reason) : State :=
  placeRefusal o.station o.tag why (s.setStation o.station { s.station o.station with receiver := .hunting })

theorem arrive_of_tag_in_use {s : State} {o : OrderFrame} (attached : (s.station o.station).attached = true)
    (used : ∃ e ∈ (s.station o.station).intake, e.tag = o.tag) (code : Byte) (judge : OrderRef → State → State) :
    arrive code o judge s = s.notTaken o .tagInUse := by
  have carried : ((s.station o.station).intake.any fun e => e.tag == o.tag) = true := by
    simpa only [List.any_eq_true, beq_iff_eq] using used
  unfold arrive
  rw [attached, carried]
  rfl

theorem arrive_of_full {s : State} {o : OrderFrame} (attached : (s.station o.station).attached = true)
    (unused : ¬∃ e ∈ (s.station o.station).intake, e.tag = o.tag) (full : 4 ≤ (s.station o.station).intake.length)
    (code : Byte) (judge : OrderRef → State → State) : arrive code o judge s = s.notTaken o .intakeFull := by
  have free : ((s.station o.station).intake.any fun e => e.tag == o.tag) = false :=
    Bool.eq_false_iff.2 (by simpa only [ne_eq, List.any_eq_true, beq_iff_eq] using unused)
  have filled : intakeCapacity ≤ (s.station o.station).intake.length := full
  unfold arrive
  rw [attached, free]
  exact if_pos filled

theorem refusalCount_eq (l : List Placed) : refusalCount l = (l.filter fun p => p.serial == none).length := by
  refine congrArg List.length (List.filter_congr fun p _ => ?_)
  cases p.serial <;> rfl

/-- The refusal stands behind the replies, or, with four unsent, FRAME_ERROR is raised in its place. -/
theorem placeRefusal_setStation (s : State) (n : Station) (r : StationRecord) (tag : Byte) (why : Reason) :
    placeRefusal n tag why (s.setStation n r) =
      if (r.replies.filter fun p => p.serial == none).length < 4 then
        s.setStation n { r with replies := r.replies ++ [⟨none, tag, .refused, why, []⟩] }
      else s.setStation n (r.told 22) := by
  have told : r.raise .frameError = r.told 22 := rfl
  simp only [placeRefusal, raise, refusalCapacity, refusalCount_eq, State.modStation_eq,
    State.station_setStation_self, told]
  simp only [State.setStation, PerStation.set_set]

/-- Neither the receiver nor a placed refusal bears on the line; FRAME_ERROR does. -/
theorem run_of_notTaken {f : State → State} {s : State} {o : OrderFrame} {why : Reason} (kept : s.Kept)
    (running : s.heldDown = false) (refused : f s = s.notTaken o why) :
    let r := { s.station o.station with receiver := .hunting }
    run f s = .next (
      if (r.replies.filter fun p => p.serial == none).length < 4 then
        s.setStation o.station { r with replies := r.replies ++ [⟨none, o.tag, .refused, why, []⟩] }
      else setLines (s.setStation o.station (r.told 22))) := by
  intro r
  rw [State.notTaken, placeRefusal_setStation] at refused
  by_cases room : (r.replies.filter fun p => p.serial == none).length < 4
  · rw [if_pos room] at refused ⊢
    exact run_setStation_of_line kept running refused (kept.linesSet o.station)
  · rw [if_neg room] at refused ⊢
    exact run_setStation kept running refused

/-! ### Intake refusals sent -/

theorem exec_replySent (n : Station) (s : State) : exec (.replySent n) s = run (sendReply n) s := rfl

/-- No intake entry has the number of an intake refusal: the intake stays. -/
theorem sendReply_of_refusal {s : State} {n : Station} {p : Placed} {rest : List Placed}
    (oldest : (s.station n).replies = p :: rest) (refusal : p.serial = none) :
    sendReply n s = s.setStation n { s.station n with replies := rest, tx := replyBytes p } := by
  have stays : (s.station n).intake.filter (fun e => some e.serial != p.serial) = (s.station n).intake :=
    List.filter_eq_self.2 fun _ _ => by rw [refusal]; rfl
  simp only [sendReply, oldest, State.modStation_eq, stays]

/-! ### Orders of unknown code -/

theorem judgeOf_of_unknown {code : Byte} (unknown : orderCodes.contains code = false) :
    judgeOf code = judgeUnknown := by
  have differs : ∀ c ∈ orderCodes, code ≠ c := by
    rintro c listed rfl
    exact Bool.eq_false_iff.1 unknown (List.contains_iff_mem.2 listed)
  simp only [orderCodes, List.forall_mem_cons] at differs
  simp only [judgeOf, differs, if_false]

/-- Settles O8: an arrival that fails either check of R162 leaves a refusal or FRAME_ERROR; a sent refusal leaves the
replies alone; an unknown code is refused by the judgement it is given. -/
theorem arrivalsAreRefused : Obligations.ArrivalsAreRefused := by
  refine ⟨?_, ?_, ?_⟩
  · intro s o kept running attached c why arrival reason fails
    have arrives : ∃ code judge, exec c s = run (arrive code o judge) s := by
      rcases arrival with ⟨mk, command, rfl⟩ | ⟨code, rfl⟩
      · exact exec_orderCommand command o s
      · exact ⟨code, judgeOf code o, exec_unknownOrder code o s⟩
    obtain ⟨code, judge, execution⟩ := arrives
    rw [execution]
    by_cases used : ∃ e ∈ (s.station o.station).intake, e.tag = o.tag
    · rw [if_pos used] at reason
      rw [reason]
      exact run_of_notTaken kept running (arrive_of_tag_in_use attached used code judge)
    · rw [if_neg used] at reason
      rw [reason]
      exact run_of_notTaken kept running (arrive_of_full attached used (fails.resolve_left used) code judge)
  · intro s n p rest kept running oldest refusal
    rw [exec_replySent]
    exact run_setStation_of_line kept running (sendReply_of_refusal oldest refusal) (kept.linesSet n)
  · intro s code o kept takes unknown
    rw [exec_unknownOrder, judgeOf_of_unknown unknown]
    exact run_read _ _ _ _ _ _ _ kept takes rfl

end Sys2Proof.Machine

/-! READ_EVENTS (R172), READ_FAULT (R176), ACK_EVENTS (R173) and SET_ENABLES (R174). -/

namespace Sys2Proof.Machine

/-! ### An order that changes its station's own record -/

/-- A change of a Station Record that an order may make while its entry stands in the intake: it leaves the intake and
the attachment, and it comes to the same before and after the entry. -/
structure StationRecord.OwnChange (f : StationRecord → StationRecord) : Prop where
  attached : ∀ r, (f r).attached = r.attached
  intake   : ∀ r, (f r).intake = r.intake
  entered  : ∀ r serial code o stage,
    f (StationRecord.entered r serial code o stage) = (f r).entered serial code o stage

theorem StationRecord.ownChange_clearFault : OwnChange fun r => { r with fault := .none } :=
  ⟨fun _ => rfl, fun _ => rfl, fun _ _ _ _ _ => rfl⟩

theorem StationRecord.ownChange_acknowledge (e : EventSet) : OwnChange (acknowledge e) :=
  ⟨fun _ => rfl, fun _ => rfl, fun _ _ _ _ _ => rfl⟩

theorem StationRecord.ownChange_enable (e : EventSet) : OwnChange fun r => { r with enable := e } :=
  ⟨fun _ => rfl, fun _ => rfl, fun _ _ _ _ _ => rfl⟩

theorem State.entered_modStation {f : StationRecord → StationRecord} (own : StationRecord.OwnChange f) (s : State)
    (code : Byte) (o : OrderFrame) :
    (s.entered code o).modStation o.station f = (s.modStation o.station f).entered code o := by
  rw [State.modStation_eq, State.modStation_eq, State.entered_station_self, own.entered, State.entered, State.entered,
    State.station_setStation_self]
  simp only [State.setStation, PerStation.set_set]

section OwnChange
variable {code : Byte} {o : OrderFrame} {judge : OrderRef → State → State} {s : State}
  {f : StationRecord → StationRecord} {res : Result} {why : Reason} {data : List Word}

/-- An order answered at once that changes its station's record: the lines are set again. -/
theorem run_ownChange (own : StationRecord.OwnChange f) (kept : s.Kept) (takes : s.Takes o)
    (judgement : judge (s.nextRef o) (s.entered code o) =
      answer (s.nextRef o) res why data ((s.entered code o).modStation o.station f)) :
    run (arrive code o judge) s =
      .next (setLines ((s.modStation o.station f).answered code o res why data)) := by
  refine run_answered_lines code o judge s (s.modStation o.station f) res why data kept takes ?_ ?_ ?_ rfl rfl
    kept.roomUsed kept.fencesWait
  · rw [judgement, State.entered_modStation own]
    rfl
  · rw [State.modStation_eq, State.station_setStation_self, own.attached]
    exact takes.attached
  · rw [State.modStation_eq, State.station_setStation_self, own.intake]

/-- The same where the change leaves the line as R158 asks. -/
theorem run_ownChange_of_line (own : StationRecord.OwnChange f) (kept : s.Kept) (takes : s.Takes o)
    (judgement : judge (s.nextRef o) (s.entered code o) =
      answer (s.nextRef o) res why data ((s.entered code o).modStation o.station f))
    (line : (f (s.station o.station)).atn = lineOf s.heldDown (f (s.station o.station))) :
    run (arrive code o judge) s = .next ((s.modStation o.station f).answered code o res why data) := by
  rw [run_ownChange own kept takes judgement, setLines_of_set]
  intro n
  by_cases same : n = o.station
  · rw [same, State.answered_station_self, State.modStation_eq, State.station_setStation_self]
    exact line
  · rw [State.answered_station_of_ne _ _ _ _ _ _ same, State.modStation_eq, State.station_setStation_of_ne _ _ same]
    exact kept.linesSet n

end OwnChange

/-! ### READ_EVENTS and READ_FAULT -/

theorem exec_readEvents (o : OrderFrame) (s : State) :
    exec (.readEvents o) s =
      run (arrive codeReadEvents o fun r s =>
        judged r (bareChecks o) (done r (eventReply (s.station o.station))) s) s := rfl

theorem exec_readFault (o : OrderFrame) (s : State) :
    exec (.readFault o) s =
      run (arrive codeReadFault o fun r s =>
        judged r (bareChecks o) (fun s =>
          done r (faultWords (s.station o.station).fault)
            (s.modStation o.station fun x => { x with fault := .none })) s) s := rfl

/-- Settles O6: both orders run through the checks of a bare order; READ_EVENTS then changes nothing, and the clearing
by READ_FAULT does not bear on the attention line. -/
theorem readEventsAndReadFault : Obligations.ReadEventsAndReadFault := by
  constructor
  · intro s o kept takes
    rw [exec_readEvents]
    refine run_bare _ _ (fun r s => done r (eventReply (s.station o.station)) s) _ _ kept takes ?_
    exact run_read _ _ _ _ .done .noReason (eventReply (s.station o.station)) kept takes
      (by rw [State.entered_station_self]; rfl)
  · intro s o kept takes
    rw [exec_readFault]
    refine run_bare _ _ (fun r s => done r (faultWords (s.station o.station).fault)
      (s.modStation o.station fun x => { x with fault := .none })) _ _ kept takes ?_
    exact run_ownChange_of_line (data := faultWords (s.station o.station).fault) StationRecord.ownChange_clearFault
      kept takes (by rw [State.entered_station_self]; rfl) (kept.linesSet o.station)

/-! ### An order that carries an event set -/

theorem setOperand_of_two {o : OrderFrame} {lo hi : Word} (two : o.words = [lo, hi]) :
    setOperand o = some (eventSetOf lo hi) := by
  simp only [setOperand, two]

theorem setOperand_of_not_two {o : OrderFrame} (others : ∀ lo hi, o.words ≠ [lo, hi]) : setOperand o = none := by
  unfold setOperand
  split
  next lo hi two => exact absurd two (others lo hi)
  next => rfl

/-- The judgement ACK_EVENTS and SET_ENABLES share: target 0, then exactly two operand words (R173, R174). -/
def judgeCarriedSet (o : OrderFrame) (go : EventSet → OrderRef → State → State) (r : OrderRef) (s : State) : State :=
  if o.target ≠ 0 then refuse r (.badTarget, []) s
  else
    match setOperand o with
    | none => refuse r (.badOperand, []) s
    | some e => go e r s

theorem exec_ackEvents (o : OrderFrame) (s : State) :
    exec (.ackEvents o) s =
      run (arrive codeAckEvents o (judgeCarriedSet o fun e r s =>
        done r (eventWords ((s.modStation o.station (acknowledge e)).station o.station).status)
          (s.modStation o.station (acknowledge e)))) s := rfl

theorem exec_setEnables (o : OrderFrame) (s : State) :
    exec (.setEnables o) s =
      run (arrive codeSetEnables o (judgeCarriedSet o fun e r s =>
        done r (eventWords (s.station o.station).status)
          (s.modStation o.station fun x => { x with enable := e }))) s := rfl

section CarriedSet
variable {o : OrderFrame} {go : EventSet → OrderRef → State → State}

theorem judgeCarriedSet_of_target (target : o.target ≠ 0) (r : OrderRef) (s : State) :
    judgeCarriedSet o go r s = answer r .refused .badTarget [] s := by
  rw [judgeCarriedSet, if_pos target, refuse]

theorem judgeCarriedSet_of_not_two (target : o.target = 0) (others : ∀ lo hi, o.words ≠ [lo, hi]) (r : OrderRef)
    (s : State) : judgeCarriedSet o go r s = answer r .refused .badOperand [] s := by
  rw [judgeCarriedSet, if_neg (not_not_intro target), setOperand_of_not_two others]
  rfl

theorem judgeCarriedSet_of_two {lo hi : Word} (target : o.target = 0) (two : o.words = [lo, hi]) (r : OrderRef)
    (s : State) : judgeCarriedSet o go r s = go (eventSetOf lo hi) r s := by
  rw [judgeCarriedSet, if_neg (not_not_intro target), setOperand_of_two two]

/-- The two refusals of an order that carries an event set, and past them what it comes to with the two words. -/
theorem run_carriedSet {code : Byte} {s : State} {t : Word → Word → State} (kept : s.Kept) (takes : s.Takes o)
    (carries : ∀ lo hi, run (arrive code o (go (eventSetOf lo hi))) s = .next (t lo hi)) :
    run (arrive code o (judgeCarriedSet o go)) s =
      .next (
        if o.target ≠ 0 then s.answered code o .refused .badTarget []
        else
          match o.words with
          | [lo, hi] => t lo hi
          | _ => s.answered code o .refused .badOperand []) := by
  by_cases target : o.target = 0
  · rw [if_neg (not_not_intro target)]
    split
    next lo hi two =>
      rw [← carries, run_taken _ _ _ _ takes, run_taken _ _ _ _ takes, judgeCarriedSet_of_two target two]
    next others =>
      exact run_read _ _ _ _ _ _ _ kept takes (judgeCarriedSet_of_not_two target others ..)
  · rw [if_pos target]
    exact run_read _ _ _ _ _ _ _ kept takes (judgeCarriedSet_of_target target ..)

end CarriedSet

/-! ### ACK_EVENTS and SET_ENABLES -/

/-- An event set shares no member with the set of one event exactly when that event is not in it (R171). -/
theorem and_eventBit_eq_zero_iff (e : EventSet) (event : Event) : e &&& event.bit = 0 ↔ e.getLsbD event.code = false := by
  have weight : event.bit = BitVec.twoPow 23 event.code := rfl
  have present : BitVec.twoPow 23 event.code ≠ 0 := by cases event <;> decide
  rw [weight, BitVec.and_twoPow]
  cases e.getLsbD event.code with
  | true => simpa only [if_true, Bool.true_eq_false, iff_false] using present
  | false => exact iff_of_true rfl rfl

/-- The report list is emptied when WATCH_REPORT, code 10, is among the events named. -/
theorem acknowledge_eq (e : EventSet) (r : StationRecord) :
    acknowledge e r =
      { r with status := r.status &&& ~~~e, reports := if e.getLsbD 10 then [] else r.reports } := by
  have named : e &&& Event.watchReport.bit = 0 ↔ e.getLsbD 10 = false := and_eventBit_eq_zero_iff e .watchReport
  simp only [acknowledge, named]
  cases e.getLsbD 10 <;> rfl

/-- The order's own entry does not bear on the status set an acknowledgement leaves. -/
theorem State.acknowledged_status (s : State) (code : Byte) (o : OrderFrame) (e : EventSet) :
    (((s.entered code o).modStation o.station (acknowledge e)).station o.station).status =
      (s.station o.station).status &&& ~~~e := by
  rw [State.modStation_eq, State.station_setStation_self, State.entered_station_self]; rfl

/-- Settles O7: past the two refusals each order changes its station's record with the set its two words carry, and the
lines are set again. -/
theorem ackEventsAndSetEnables : Obligations.AckEventsAndSetEnables := by
  constructor
  · intro s o kept takes
    rw [exec_ackEvents]
    refine run_carriedSet kept takes fun lo hi => ?_
    rw [run_ownChange (StationRecord.ownChange_acknowledge (eventSetOf lo hi)) kept takes
      (by rw [State.acknowledged_status]; rfl), State.modStation_eq, acknowledge_eq]
    rfl
  · intro s o kept takes
    rw [exec_setEnables]
    refine run_carriedSet kept takes fun lo hi => ?_
    exact run_ownChange (data := setWords (s.station o.station).status)
      (StationRecord.ownChange_enable (eventSetOf lo hi)) kept takes (by rw [State.entered_station_self]; rfl)

end Sys2Proof.Machine
